-- ==== Sys2Proof/Word.lean ====
section
/-! DEFINITION. The plainest types: a byte of a station line, a port number, a filter's place in the table. -/

namespace Sys2Proof

/-- One character of a station line (R147). -/
abbrev Byte := BitVec 8

/-- A station port, 0 to 3 (spec/00_scope.md, "Numbering"). -/
abbrev PortNo := Fin 4

/-- A filter's place in the Filter Table: place `f` holds filter number `f + 1` (R1). -/
abbrev FilterNo := Fin 32

end Sys2Proof
end

