-- ==== Sys2Proof/Config.lean ====
section
/-! DEFINITION. The free values: what the manual leaves open and every implementation decides. None has a body. -/

namespace Sys2Proof.Config

/-- The clock second that follows 4 294 967 295, the last of the range of spec/00_scope.md "Units and ranges"; the manual states none (log 12). -/
opaque clockAfterLast : Nat → BitVec 32

/-- The kind byte of the reply to a request kind of 0x80 or more: R174 gives the kind plus 0x80, which no byte holds (log 17). -/
opaque overflowReplyKind : Nat → BitVec 8

/-- The four bytes of the service start of the FILTER view, as a number, where the time lies outside the 4-byte signed field that
R172 and spec/12 give it; the manual states none (log 30). -/
opaque overflowServiceStart : Int → BitVec 32

/-- Whether the image's integrity check passes, where the load ends in the idle step and not by a command that says so (R166, log 7). -/
opaque imageIntegrity : Nat → Bool

/-- Whether the written image agrees with its snapshot, where the write runs its full 3 s with no command that says so (R169, log 21). -/
opaque storeVerified : Nat → Bool

end Sys2Proof.Config
end

