-- ==== Sys2Proof/Syntax.lean ====
section
/-! DEFINITION. The commands of the block: one constructor of `Instr` per row of spec/opcode_table.json. -/

namespace Sys2Proof

/-- The eight conditioned inputs (spec/05 section 5.3), in the order that numbers them 1 to 8. -/
inductive Input
  | headerTrip | supplyLow | basinHigh | basinEmpty | returnRun | pumpRun | blowerRun | storm
  deriving DecidableEq, Repr

/-- The two supervision pairs (spec/05 section 5.4): WASH_PUMP with PUMP_RUN, BLOWER with BLOWER_RUN. -/
inductive Pair
  | pump | blower
  deriving DecidableEq, Repr

/-- What a received character showed when its frame was discarded (R149). -/
inductive DiscardCause
  | badLength | stopBit | crcMismatch
  deriving DecidableEq, Repr

/-- One entry of a CONDITION request (spec/12 section 12.2). -/
structure ConditionEntry where
  filter    : Nat
  headLoss  : Nat
  turbidity : Nat
  deriving DecidableEq, Repr

/-- The 11-byte recipe step record as a telegram carries it (spec/12 section 12.2); `flags` is its last byte. -/
structure StepRecord where
  duration  : Nat
  mark      : Nat
  pump      : Nat
  blower    : Nat
  washValve : Nat
  airValve  : Nat
  flow      : Nat
  flags     : Nat
  deriving DecidableEq, Repr

/-- The commands. A request command is a good frame of that kind arriving whole at port `p` with tag `tag`;
its further operands are the fields of its body, each the unsigned number its bytes spell (spec/12 section 12.2). -/
inductive Instr
  /-- RESET: power-on, or the release of the RESET pin, with the levels of the two rate straps. -/
  | reset (rate0 rate1 : Bool)
  /-- IMAGE_LOAD_COMPLETE, with the outcome of the image's integrity check. -/
  | imageLoadComplete (intact : Bool)
  | attach (p : PortNo) (tag revision : Nat) (name : List Nat)
  | detach (p : PortNo) (tag : Nat)
  | readFilter (p : PortNo) (tag filter : Nat)
  | readQueue (p : PortNo) (tag start : Nat)
  | readHeader (p : PortNo) (tag : Nat)
  | readBasin (p : PortNo) (tag : Nat)
  | readPolicy (p : PortNo) (tag bank item : Nat)
  | readRecipe (p : PortNo) (tag bank letter step : Nat)
  | readPlant (p : PortNo) (tag setting input : Nat)
  | readAssign (p : PortNo) (tag filter : Nat)
  | readHistory (p : PortNo) (tag age : Nat)
  | readPorts (p : PortNo) (tag named : Nat)
  | readClock (p : PortNo) (tag : Nat)
  | attention (p : PortNo) (tag : Nat) (mask : Option Nat)
  | condition (p : PortNo) (tag : Nat) (entries : List ConditionEntry)
  | washRequest (p : PortNo) (tag filter cls : Nat)
  | withdraw (p : PortNo) (tag filter : Nat)
  | holdOut (p : PortNo) (tag filter forced : Nat)
  | release (p : PortNo) (tag filter : Nat)
  | returnFilter (p : PortNo) (tag filter : Nat)
  | reconcile (p : PortNo) (tag filter declared hours : Nat)
  | isolated (p : PortNo) (tag filter : Nat)
  | decline (p : PortNo) (tag filter : Nat)
  | proceed (p : PortNo) (tag filter step : Nat)
  | abandon (p : PortNo) (tag filter : Nat)
  | holdHeader (p : PortNo) (tag : Nat)
  | releaseHold (p : PortNo) (tag : Nat)
  | basinDeclare (p : PortNo) (tag litres : Nat)
  | policyLock (p : PortNo) (tag : Nat)
  | policyUnlock (p : PortNo) (tag : Nat)
  | policyWrite (p : PortNo) (tag bank item value : Nat)
  | recipeWrite (p : PortNo) (tag bank letter index : Nat) (record : StepRecord)
  | recipeTruncate (p : PortNo) (tag bank letter count : Nat)
  | assign (p : PortNo) (tag filter present owner letter : Nat)
  | plantWrite (p : PortNo) (tag setting input value : Nat)
  | postureSwitch (p : PortNo) (tag target : Nat)
  | store (p : PortNo) (tag : Nat)
  /-- STORE_COMPLETE, with whether the written content agrees with the snapshot. -/
  | storeComplete (agrees : Bool)
  | frameDiscard (p : PortNo) (cause : DiscardCause)
  | characterGapTimeout (p : PortNo)
  | resyncIdle (p : PortNo)
  | lineBreak (p : PortNo)
  | requestDiscardedQueueFull (p : PortNo)
  | replySent (p : PortNo)
  | quietExpiry (p : PortNo)
  | lostExpiry (p : PortNo)
  | runTimeExpiry (f : FilterNo)
  | ripeningExpiry (f : FilterNo)
  | selection
  | holdLimitExpiry
  | callWindowExpiry
  | gateExpiry
  | markReached
  | stepEnd
  | tripHoldLimitExpiry
  | gapExpiry
  | startWindowExpiry (pair : Pair)
  | stopWindowExpiry (pair : Pair)
  /-- INPUT_RAW_CHANGE: the raw level of an input becomes high or low. -/
  | inputRawChange (input : Input) (high : Bool)
  | inputQualifyExpiry (input : Input)
  | basinAccrual
  | lockExpiry
  | switchTake
  | startByteReceived (p : PortNo) (byte : Byte)
  /-- UNKNOWN_REQUEST_KIND: a good frame of an unknown kind, or a READ (kind 3) whose view is none of the eleven. -/
  | unknownRequestKind (p : PortNo) (tag kind view : Nat)
  deriving DecidableEq, Repr

end Sys2Proof
end

