-- ==== Sys2Proof/WellFormed.lean ====
section
/-! DEFINITION. Which commands a station line can spell: every operand fits the bytes spec/12 section 12.2 gives it. -/

namespace Sys2Proof

/-- A one-byte field. -/
def fitsByte (n : Nat) : Bool := n < 256

/-- A two-byte field. -/
def fitsTwo (n : Nat) : Bool := n < 65536

/-- A four-byte field. -/
def fitsFour (n : Nat) : Bool := n < 4294967296

def ConditionEntry.wf (e : ConditionEntry) : Bool :=
  fitsByte e.filter && fitsTwo e.headLoss && fitsTwo e.turbidity

def StepRecord.wf (r : StepRecord) : Bool :=
  fitsTwo r.duration && fitsTwo r.mark && fitsByte r.pump && fitsByte r.blower && fitsByte r.washValve &&
    fitsByte r.airValve && fitsTwo r.flow && fitsByte r.flags

/-- The 27 request kinds are the codes 0x01 to 0x1B (spec/12 section 12.2). -/
def knownKind (kind : Nat) : Bool := 1 ≤ kind && kind ≤ 27

/-- The eleven READ views are the codes 0x01 to 0x0B (spec/12 section 12.4). -/
def knownView (view : Nat) : Bool := 1 ≤ view && view ≤ 11

/-- The kind code of READ. -/
def kindRead : Nat := 3

/-- The event of UNKNOWN_REQUEST_KIND: an unknown kind, or a READ of an unknown view (R152 steps 1 and 3). -/
def unknownRequest (kind view : Nat) : Bool :=
  !knownKind kind || (kind == kindRead && !knownView view)

/-- A well-formed command: its numbers fit their fields, its body fits the 60 bytes of a frame (spec/12 section 12.1). -/
def Instr.wf : Instr → Bool
  | .reset _ _ => true
  | .imageLoadComplete _ => true
  | .attach _ tag revision name => fitsByte tag && fitsByte revision && name.all fitsByte && name.length ≤ 59
  | .detach _ tag => fitsByte tag
  | .readFilter _ tag filter => fitsByte tag && fitsByte filter
  | .readQueue _ tag start => fitsByte tag && fitsByte start
  | .readHeader _ tag => fitsByte tag
  | .readBasin _ tag => fitsByte tag
  | .readPolicy _ tag bank item => fitsByte tag && fitsByte bank && fitsByte item
  | .readRecipe _ tag bank letter step => fitsByte tag && fitsByte bank && fitsByte letter && fitsByte step
  | .readPlant _ tag setting input => fitsByte tag && fitsByte setting && fitsByte input
  | .readAssign _ tag filter => fitsByte tag && fitsByte filter
  | .readHistory _ tag age => fitsByte tag && fitsByte age
  | .readPorts _ tag named => fitsByte tag && fitsByte named
  | .readClock _ tag => fitsByte tag
  | .attention _ tag mask => fitsByte tag && mask.all fitsTwo
  | .condition _ tag entries => fitsByte tag && entries.all ConditionEntry.wf && entries.length ≤ 11
  | .washRequest _ tag filter cls => fitsByte tag && fitsByte filter && fitsByte cls
  | .withdraw _ tag filter => fitsByte tag && fitsByte filter
  | .holdOut _ tag filter forced => fitsByte tag && fitsByte filter && fitsByte forced
  | .release _ tag filter => fitsByte tag && fitsByte filter
  | .returnFilter _ tag filter => fitsByte tag && fitsByte filter
  | .reconcile _ tag filter declared hours => fitsByte tag && fitsByte filter && fitsByte declared && fitsByte hours
  | .isolated _ tag filter => fitsByte tag && fitsByte filter
  | .decline _ tag filter => fitsByte tag && fitsByte filter
  | .proceed _ tag filter step => fitsByte tag && fitsByte filter && fitsByte step
  | .abandon _ tag filter => fitsByte tag && fitsByte filter
  | .holdHeader _ tag => fitsByte tag
  | .releaseHold _ tag => fitsByte tag
  | .basinDeclare _ tag litres => fitsByte tag && fitsFour litres
  | .policyLock _ tag => fitsByte tag
  | .policyUnlock _ tag => fitsByte tag
  | .policyWrite _ tag bank item value => fitsByte tag && fitsByte bank && fitsByte item && fitsFour value
  | .recipeWrite _ tag bank letter index record =>
      fitsByte tag && fitsByte bank && fitsByte letter && fitsByte index && record.wf
  | .recipeTruncate _ tag bank letter count => fitsByte tag && fitsByte bank && fitsByte letter && fitsByte count
  | .assign _ tag filter present owner letter =>
      fitsByte tag && fitsByte filter && fitsByte present && fitsByte owner && fitsByte letter
  | .plantWrite _ tag setting input value => fitsByte tag && fitsByte setting && fitsByte input && fitsFour value
  | .postureSwitch _ tag target => fitsByte tag && fitsByte target
  | .store _ tag => fitsByte tag
  | .storeComplete _ => true
  | .frameDiscard _ _ => true
  | .characterGapTimeout _ => true
  | .resyncIdle _ => true
  | .lineBreak _ => true
  | .requestDiscardedQueueFull _ => true
  | .replySent _ => true
  | .quietExpiry _ => true
  | .lostExpiry _ => true
  | .runTimeExpiry _ => true
  | .ripeningExpiry _ => true
  | .selection => true
  | .holdLimitExpiry => true
  | .callWindowExpiry => true
  | .gateExpiry => true
  | .markReached => true
  | .stepEnd => true
  | .tripHoldLimitExpiry => true
  | .gapExpiry => true
  | .startWindowExpiry _ => true
  | .stopWindowExpiry _ => true
  | .inputRawChange _ _ => true
  | .inputQualifyExpiry _ => true
  | .basinAccrual => true
  | .lockExpiry => true
  | .switchTake => true
  | .startByteReceived _ _ => true
  | .unknownRequestKind _ tag kind view => fitsByte tag && fitsByte kind && fitsByte view && unknownRequest kind view

end Sys2Proof
end

