-- ==== Sys2Proof/Decode.lean ====
section
/-! DEFINITION. The opcode table's words (none has bits), and the station line's own encoding: CRC, frames,
and the request bodies of spec/12, read and written. -/

namespace Sys2Proof

/-- spec/opcode_table.json gives no row any bits, so no word spells a command. -/
def decodeTableWord (_nbits _w : Nat) : Option Instr := none

/-! ## Bytes and multi-byte fields, low byte first (spec/12) -/

/-- The low byte of a number. -/
def byteOf (n : Nat) : Byte := BitVec.ofNat 8 n

def le16 (n : Nat) : List Byte := [byteOf n, byteOf (n / 256)]

def le32 (n : Nat) : List Byte := [byteOf n, byteOf (n / 256), byteOf (n / 65536), byteOf (n / 16777216)]

def from16 (b0 b1 : Byte) : Nat := b0.toNat + 256 * b1.toNat

def from32 (b0 b1 b2 b3 : Byte) : Nat := b0.toNat + 256 * b1.toNat + 65536 * b2.toNat + 16777216 * b3.toNat

/-! ## The CRC (spec/12 section 12.1): x^16 + x^12 + x^5 + 1, initial value 0xFFFF, most significant bit first -/

def crcBit (c : BitVec 16) : BitVec 16 :=
  if c.msb then (c <<< 1) ^^^ 0x1021#16 else c <<< 1

def crcByte (c : BitVec 16) (b : Byte) : BitVec 16 :=
  crcBit (crcBit (crcBit (crcBit (crcBit (crcBit (crcBit (crcBit (c ^^^ ((b.zeroExtend 16) <<< 8)))))))))

/-- The CRC over the bytes from the length to the end of the body. -/
def crc (bytes : List Byte) : BitVec 16 := bytes.foldl crcByte 0xFFFF#16

/-! ## Frames (R148, spec/12 section 12.1) -/

/-- The start byte. -/
def startByte : Byte := 0xA5#8

/-- The bytes of a frame from its length byte to the end of its body. -/
def covered (kind tag : Byte) (body : List Byte) : List Byte := byteOf (body.length + 2) :: kind :: tag :: body

/-- A whole frame: start byte, covered bytes, CRC low byte first. -/
def frame (kind tag : Byte) (body : List Byte) : List Byte :=
  startByte :: (covered kind tag body ++ le16 (crc (covered kind tag body)).toNat)

/-- What the bytes after the start byte make so far (R148, R149). -/
inductive Gathered
  /-- More characters are expected. -/
  | more
  /-- The length byte lies below 2 or above 62. -/
  | badLength
  /-- The CRC does not match. -/
  | badCrc
  /-- A good frame. -/
  | good (kind tag : Byte) (body : List Byte)
  deriving DecidableEq, Repr

/-- A frame with its last CRC byte received: `rest` holds kind, tag, body and the two CRC bytes. -/
def checkWhole (len : Byte) (rest : List Byte) : Gathered :=
  match rest.take len.toNat, rest.drop len.toNat with
  | kind :: tag :: body, [lo, hi] =>
      if (crc (len :: kind :: tag :: body)).toNat = from16 lo hi then .good kind tag body else .badCrc
  | _, _ => .badCrc

/-- What a receiver in FRAMING makes of the characters gathered after the start byte. -/
def gather : List Byte → Gathered
  | [] => .more
  | len :: rest =>
      if len.toNat < 2 || 62 < len.toNat then .badLength
      else if rest.length < len.toNat + 2 then .more
      else checkWhole len rest

/-! ## Request bodies (spec/12 section 12.2) -/

/-- A request frame read: a command, a body of wrong length or form (R152 step 3), or an unknown request (R152 step 1). -/
inductive Request
  | command (i : Instr)
  | badForm
  | unknown
  deriving DecidableEq, Repr

def decodeEntries : List Byte → Option (List ConditionEntry)
  | [] => some []
  | f :: h0 :: h1 :: t0 :: t1 :: rest =>
      match decodeEntries rest with
      | some es => some (⟨f.toNat, from16 h0 h1, from16 t0 t1⟩ :: es)
      | none => none
  | _ => none

/-- CONDITION: the entry count agrees with the length (R152 step 3); whether it lies in 1 to 8 is the command's own test. -/
def decodeCondition (p : PortNo) (tag : Nat) : List Byte → Request
  | [] => .badForm
  | n :: rest =>
      match decodeEntries rest with
      | some es => if es.length = n.toNat then .command (.condition p tag es) else .badForm
      | none => .badForm

/-- The arguments of each READ view (spec/12 section 12.4). -/
def decodeView (p : PortNo) (tag : Nat) (view : Byte) (args : List Byte) : Request :=
  match view.toNat, args with
  | 1, [f] => .command (.readFilter p tag f.toNat)
  | 2, [k] => .command (.readQueue p tag k.toNat)
  | 3, [] => .command (.readHeader p tag)
  | 4, [] => .command (.readBasin p tag)
  | 5, [b, i] => .command (.readPolicy p tag b.toNat i.toNat)
  | 6, [b, l, k] => .command (.readRecipe p tag b.toNat l.toNat k.toNat)
  | 7, [k, i] => .command (.readPlant p tag k.toNat i.toNat)
  | 8, [f] => .command (.readAssign p tag f.toNat)
  | 9, [k] => .command (.readHistory p tag k.toNat)
  | 10, [q] => .command (.readPorts p tag q.toNat)
  | 11, [] => .command (.readClock p tag)
  | _, _ => .badForm

def decodeRead (p : PortNo) (tag : Nat) : List Byte → Request
  | view :: args =>
      if knownView view.toNat then decodeView p tag view args
      else .command (.unknownRequestKind p tag kindRead view.toNat)
  | [] => .badForm

/-- RECIPE_WRITE: bank, letter, index and the 11-byte step record. -/
def decodeRecipeWrite (p : PortNo) (tag : Nat) : List Byte → Request
  | [bank, letter, index, d0, d1, m0, m1, wp, bl, wv, av, f0, f1, flags] =>
      .command (.recipeWrite p tag bank.toNat letter.toNat index.toNat
        ⟨from16 d0 d1, from16 m0 m1, wp.toNat, bl.toNat, wv.toNat, av.toNat, from16 f0 f1, flags.toNat⟩)
  | _ => .badForm

/-- The request that a good frame carries: its kind code, tag and body (R152 steps 1 and 3, by length; spec/12 section 12.2). -/
def decodeRequest (p : PortNo) (kind tag : Byte) (body : List Byte) : Request :=
  let t := tag.toNat
  match kind.toNat, body with
  | 0x01, revision :: name => .command (.attach p t revision.toNat (name.map BitVec.toNat))
  | 0x02, [] => .command (.detach p t)
  | 0x03, body => decodeRead p t body
  | 0x04, [] => .command (.attention p t none)
  | 0x04, [m0, m1] => .command (.attention p t (some (from16 m0 m1)))
  | 0x05, body => decodeCondition p t body
  | 0x06, [f, c] => .command (.washRequest p t f.toNat c.toNat)
  | 0x07, [f] => .command (.withdraw p t f.toNat)
  | 0x08, [f] => .command (.isolated p t f.toNat)
  | 0x09, [f] => .command (.decline p t f.toNat)
  | 0x0A, [f, k] => .command (.proceed p t f.toNat k.toNat)
  | 0x0B, [f] => .command (.abandon p t f.toNat)
  | 0x0C, [f] => .command (.returnFilter p t f.toNat)
  | 0x0D, [f, g] => .command (.holdOut p t f.toNat g.toNat)
  | 0x0E, [f] => .command (.release p t f.toNat)
  | 0x0F, [f, d, h] => .command (.reconcile p t f.toNat d.toNat h.toNat)
  | 0x10, [] => .command (.holdHeader p t)
  | 0x11, [] => .command (.releaseHold p t)
  | 0x12, [v0, v1, v2, v3] => .command (.basinDeclare p t (from32 v0 v1 v2 v3))
  | 0x13, [] => .command (.policyLock p t)
  | 0x14, [] => .command (.policyUnlock p t)
  | 0x15, [b, i, v0, v1, v2, v3] => .command (.policyWrite p t b.toNat i.toNat (from32 v0 v1 v2 v3))
  | 0x16, body => decodeRecipeWrite p t body
  | 0x17, [b, l, n] => .command (.recipeTruncate p t b.toNat l.toNat n.toNat)
  | 0x18, [f, g, o, l] => .command (.assign p t f.toNat g.toNat o.toNat l.toNat)
  | 0x19, [k, i, v0, v1, v2, v3] => .command (.plantWrite p t k.toNat i.toNat (from32 v0 v1 v2 v3))
  | 0x1A, [b] => .command (.postureSwitch p t b.toNat)
  | 0x1B, [] => .command (.store p t)
  | k, _ => if knownKind k then .badForm else .unknown

/-! ## The encoder: what a station sends for a request command -/

/-- Kind code, tag and body of a request's frame. -/
structure Telegram where
  kind : Nat
  tag  : Nat
  body : List Byte
  deriving DecidableEq, Repr

def Telegram.bytes (t : Telegram) : List Byte := frame (byteOf t.kind) (byteOf t.tag) t.body

def encodeEntry (e : ConditionEntry) : List Byte := byteOf e.filter :: (le16 e.headLoss ++ le16 e.turbidity)

def encodeRecord (r : StepRecord) : List Byte :=
  le16 r.duration ++ le16 r.mark ++ [byteOf r.pump, byteOf r.blower, byteOf r.washValve, byteOf r.airValve] ++
    le16 r.flow ++ [byteOf r.flags]

/-- The telegram of a request command; the other commands are not sent by a station, and an unknown request has no one body. -/
def encodeRequest : Instr → Option (PortNo × Telegram)
  | .attach p tag revision name => some (p, ⟨0x01, tag, byteOf revision :: name.map byteOf⟩)
  | .detach p tag => some (p, ⟨0x02, tag, []⟩)
  | .readFilter p tag filter => some (p, ⟨0x03, tag, [1, byteOf filter]⟩)
  | .readQueue p tag start => some (p, ⟨0x03, tag, [2, byteOf start]⟩)
  | .readHeader p tag => some (p, ⟨0x03, tag, [3]⟩)
  | .readBasin p tag => some (p, ⟨0x03, tag, [4]⟩)
  | .readPolicy p tag bank item => some (p, ⟨0x03, tag, [5, byteOf bank, byteOf item]⟩)
  | .readRecipe p tag bank letter step => some (p, ⟨0x03, tag, [6, byteOf bank, byteOf letter, byteOf step]⟩)
  | .readPlant p tag setting input => some (p, ⟨0x03, tag, [7, byteOf setting, byteOf input]⟩)
  | .readAssign p tag filter => some (p, ⟨0x03, tag, [8, byteOf filter]⟩)
  | .readHistory p tag age => some (p, ⟨0x03, tag, [9, byteOf age]⟩)
  | .readPorts p tag named => some (p, ⟨0x03, tag, [10, byteOf named]⟩)
  | .readClock p tag => some (p, ⟨0x03, tag, [11]⟩)
  | .attention p tag none => some (p, ⟨0x04, tag, []⟩)
  | .attention p tag (some mask) => some (p, ⟨0x04, tag, le16 mask⟩)
  | .condition p tag entries => some (p, ⟨0x05, tag, byteOf entries.length :: entries.flatMap encodeEntry⟩)
  | .washRequest p tag filter cls => some (p, ⟨0x06, tag, [byteOf filter, byteOf cls]⟩)
  | .withdraw p tag filter => some (p, ⟨0x07, tag, [byteOf filter]⟩)
  | .isolated p tag filter => some (p, ⟨0x08, tag, [byteOf filter]⟩)
  | .decline p tag filter => some (p, ⟨0x09, tag, [byteOf filter]⟩)
  | .proceed p tag filter step => some (p, ⟨0x0A, tag, [byteOf filter, byteOf step]⟩)
  | .abandon p tag filter => some (p, ⟨0x0B, tag, [byteOf filter]⟩)
  | .returnFilter p tag filter => some (p, ⟨0x0C, tag, [byteOf filter]⟩)
  | .holdOut p tag filter forced => some (p, ⟨0x0D, tag, [byteOf filter, byteOf forced]⟩)
  | .release p tag filter => some (p, ⟨0x0E, tag, [byteOf filter]⟩)
  | .reconcile p tag filter declared hours => some (p, ⟨0x0F, tag, [byteOf filter, byteOf declared, byteOf hours]⟩)
  | .holdHeader p tag => some (p, ⟨0x10, tag, []⟩)
  | .releaseHold p tag => some (p, ⟨0x11, tag, []⟩)
  | .basinDeclare p tag litres => some (p, ⟨0x12, tag, le32 litres⟩)
  | .policyLock p tag => some (p, ⟨0x13, tag, []⟩)
  | .policyUnlock p tag => some (p, ⟨0x14, tag, []⟩)
  | .policyWrite p tag bank item value => some (p, ⟨0x15, tag, byteOf bank :: byteOf item :: le32 value⟩)
  | .recipeWrite p tag bank letter index record =>
      some (p, ⟨0x16, tag, byteOf bank :: byteOf letter :: byteOf index :: encodeRecord record⟩)
  | .recipeTruncate p tag bank letter count =>
      some (p, ⟨0x17, tag, [byteOf bank, byteOf letter, byteOf count]⟩)
  | .assign p tag filter present owner letter =>
      some (p, ⟨0x18, tag, [byteOf filter, byteOf present, byteOf owner, byteOf letter]⟩)
  | .plantWrite p tag setting input value =>
      some (p, ⟨0x19, tag, byteOf setting :: byteOf input :: le32 value⟩)
  | .postureSwitch p tag target => some (p, ⟨0x1A, tag, [byteOf target]⟩)
  | .store p tag => some (p, ⟨0x1B, tag, []⟩)
  | .reset _ _ | .imageLoadComplete _ | .storeComplete _ | .frameDiscard _ _ | .characterGapTimeout _
  | .resyncIdle _ | .lineBreak _ | .requestDiscardedQueueFull _ | .replySent _ | .quietExpiry _ | .lostExpiry _
  | .runTimeExpiry _ | .ripeningExpiry _ | .selection | .holdLimitExpiry | .callWindowExpiry | .gateExpiry
  | .markReached | .stepEnd | .tripHoldLimitExpiry | .gapExpiry | .startWindowExpiry _ | .stopWindowExpiry _
  | .inputRawChange _ _ | .inputQualifyExpiry _ | .basinAccrual | .lockExpiry | .switchTake
  | .startByteReceived _ _ | .unknownRequestKind _ _ _ _ => none

end Sys2Proof
end

