-- ==== Sys2Proof/Machine/Types.lean ====
section
/-! DEFINITION. The types of the part's registers and records, and the containers that hold one value per port, input or filter. -/

namespace Sys2Proof.Machine

/-! ## Containers -/

/-- One value for each of the four ports. -/
structure ByPort (α : Type) where
  p0 : α
  p1 : α
  p2 : α
  p3 : α
  deriving DecidableEq, Repr

def ByPort.get {α : Type} (v : ByPort α) (p : PortNo) : α :=
  match p with
  | 0 => v.p0
  | 1 => v.p1
  | 2 => v.p2
  | 3 => v.p3

def ByPort.set {α : Type} (v : ByPort α) (p : PortNo) (x : α) : ByPort α :=
  match p with
  | 0 => { v with p0 := x }
  | 1 => { v with p1 := x }
  | 2 => { v with p2 := x }
  | 3 => { v with p3 := x }

def ByPort.const {α : Type} (x : α) : ByPort α := ⟨x, x, x, x⟩

def ByPort.mapIdx {α β : Type} (g : PortNo → α → β) (v : ByPort α) : ByPort β :=
  ⟨g 0 v.p0, g 1 v.p1, g 2 v.p2, g 3 v.p3⟩

/-- The four ports, in ascending number. -/
def allPorts : List PortNo := [0, 1, 2, 3]

/-- One value for each of the eight inputs. -/
structure PerInput (α : Type) where
  headerTrip : α
  supplyLow  : α
  basinHigh  : α
  basinEmpty : α
  returnRun  : α
  pumpRun    : α
  blowerRun  : α
  storm      : α
  deriving DecidableEq, Repr

def PerInput.get {α : Type} (v : PerInput α) (i : Input) : α :=
  match i with
  | .headerTrip => v.headerTrip
  | .supplyLow => v.supplyLow
  | .basinHigh => v.basinHigh
  | .basinEmpty => v.basinEmpty
  | .returnRun => v.returnRun
  | .pumpRun => v.pumpRun
  | .blowerRun => v.blowerRun
  | .storm => v.storm

def PerInput.set {α : Type} (v : PerInput α) (i : Input) (x : α) : PerInput α :=
  match i with
  | .headerTrip => { v with headerTrip := x }
  | .supplyLow => { v with supplyLow := x }
  | .basinHigh => { v with basinHigh := x }
  | .basinEmpty => { v with basinEmpty := x }
  | .returnRun => { v with returnRun := x }
  | .pumpRun => { v with pumpRun := x }
  | .blowerRun => { v with blowerRun := x }
  | .storm => { v with storm := x }

def PerInput.const {α : Type} (x : α) : PerInput α := ⟨x, x, x, x, x, x, x, x⟩

def PerInput.map {α β : Type} (g : α → β) (v : PerInput α) : PerInput β :=
  ⟨g v.headerTrip, g v.supplyLow, g v.basinHigh, g v.basinEmpty, g v.returnRun, g v.pumpRun, g v.blowerRun, g v.storm⟩

/-- The eight inputs, in the order of spec/05 section 5.3. -/
def allInputs : List Input :=
  [.headerTrip, .supplyLow, .basinHigh, .basinEmpty, .returnRun, .pumpRun, .blowerRun, .storm]

/-- The two supervision pairs. -/
def allPairs : List Pair := [.pump, .blower]

/-- The 32 places of the Filter Table, in ascending filter number. -/
def allFilters : List FilterNo :=
  [0, 1, 2, 3, 4, 5, 6, 7, 8, 9, 10, 11, 12, 13, 14, 15] ++
  [16, 17, 18, 19, 20, 21, 22, 23, 24, 25, 26, 27, 28, 29, 30, 31]

/-- One value for each of the 32 filter numbers. -/
structure Table (α : Type) where
  cells : List α
  size  : cells.length = 32
  deriving DecidableEq, Repr

def Table.get {α : Type} (t : Table α) (f : FilterNo) : α :=
  t.cells.get ⟨f.val, by rw [t.size]; exact f.isLt⟩

def Table.set {α : Type} (t : Table α) (f : FilterNo) (x : α) : Table α :=
  ⟨t.cells.set f.val x, by rw [List.length_set]; exact t.size⟩

def Table.map {α β : Type} (g : α → β) (t : Table α) : Table β :=
  ⟨t.cells.map g, by rw [List.length_map]; exact t.size⟩

def Table.const {α : Type} (x : α) : Table α := ⟨List.replicate 32 x, List.length_replicate⟩

/-! ## Filter Table (spec/01) -/

inductive Class
  | routine | prompt | urgent
  deriving DecidableEq, Repr

inductive Letter
  | a | b
  deriving DecidableEq, Repr

/-- The due reasons; STATION carries the station class, which is present exactly with it (spec/01 section 1.1). -/
structure Reasons where
  headloss  : Bool
  turbidity : Bool
  runtime   : Bool
  station   : Option Class
  deriving DecidableEq, Repr

/-- The due fields of R11: due reasons with the station class, class, queue time. -/
structure Due where
  reasons   : Reasons
  cls       : Class
  queueTime : Nat
  deriving DecidableEq, Repr

inductive HeldReason
  | station | stationForced | callLapse | ripenTimeout | washIncomplete
  deriving DecidableEq, Repr

inductive WashOutcome
  | complete | abortedBeforeWater | abortedAfterWater
  deriving DecidableEq, Repr

/-- The service states of a present filter with the optional fields each carries (spec/01 section 1.1, R11);
ABSENT is the absence of a record. `start` is the service start, signed (R172). -/
inductive Service
  | unknown
  | inService (start : Int)
  | due (d : Due) (start : Int)
  | called (d : Due) (start : Int)
  | washing (d : Due) (start : Int)
  | ripening (start : Nat)
  | heldOut (reason : HeldReason)
  deriving DecidableEq, Repr

/-- The last reported figures and their condition time (R5). -/
structure Figures where
  headLoss  : Nat
  turbidity : Nat
  time      : Nat
  deriving DecidableEq, Repr

structure LastWash where
  endTime : Nat
  outcome : WashOutcome
  deriving DecidableEq, Repr

/-- The record of a present filter (spec/01 section 1.1). -/
structure Filter where
  owner    : PortNo
  letter   : Letter
  service  : Service
  figures  : Option Figures
  lapses   : Nat
  washes   : Nat
  lastWash : Option LastWash
  deriving DecidableEq, Repr

/-- An entry of the assignment table for a present filter (R123). -/
structure Assignment where
  owner  : PortNo
  letter : Letter
  deriving DecidableEq, Repr

/-! ## Policy Store (spec/07) -/

inductive BankId
  | normal | storm
  deriving DecidableEq, Repr

/-- The output modes of a step (R92). -/
inductive Mode
  | off | on | onAtMark | offAtMark | released
  deriving DecidableEq, Repr

inductive Response
  | hold | abort
  deriving DecidableEq, Repr

/-- A recipe step (spec/04 section 4.2). -/
structure Step where
  duration  : Nat
  mark      : Nat
  pump      : Mode
  blower    : Mode
  washValve : Mode
  airValve  : Mode
  flow      : Nat
  gate      : Bool
  response  : Response
  deriving DecidableEq, Repr

/-- A policy bank: thirteen scalar items and two recipes (spec/07 section 7.1). -/
structure Bank where
  floor           : Nat
  headLossLimit   : Nat
  turbidityLimit  : Nat
  returnLimit     : Nat
  runTimeLimit    : Nat
  runLength       : Nat
  holdLimit       : Nat
  callWindow      : Nat
  gateWindow      : Nat
  tripHoldLimit   : Nat
  feedbackWindow  : Nat
  headerGap       : Nat
  ripeningLimit   : Nat
  recipeA         : List Step
  recipeB         : List Step
  deriving DecidableEq, Repr

/-- The thirteen scalar items, in the order that numbers them 1 to 13. -/
inductive PolicyItem
  | floor | headLossLimit | turbidityLimit | returnLimit | runTimeLimit | runLength | holdLimit | callWindow
  | gateWindow | tripHoldLimit | feedbackWindow | headerGap | ripeningLimit
  deriving DecidableEq, Repr

/-- The plant settings (R122); `activeLow` is the polarity, `qualify` the qualify time in ms. -/
structure Plant where
  capacity    : Nat
  returnRate  : Nat
  quietTime   : Nat
  lostTime    : Nat
  activeLow   : PerInput Bool
  qualify     : PerInput Nat
  stormEnable : Bool
  deriving DecidableEq, Repr

/-- A plant setting as PLANT_WRITE and READ PLANT name it: settings 1 to 7 of R122, the per-input ones with their input. -/
inductive Setting
  | capacity | returnRate | quietTime | lostTime | polarity (i : Input) | qualify (i : Input) | stormEnable
  deriving DecidableEq, Repr

structure Lock where
  holder : PortNo
  time   : Nat
  deriving DecidableEq, Repr

inductive Origin
  | station | line
  deriving DecidableEq, Repr

/-- A pending posture switch (spec/07 section 7.6). -/
structure PendingSwitch where
  target : BankId
  origin : Origin
  deriving DecidableEq, Repr

/-- The content of the store image (spec/11 section 11.1). -/
structure Content where
  normal      : Bank
  storm       : Bank
  plant       : Plant
  assignments : Table (Option Assignment)
  deriving DecidableEq, Repr

/-- The store image: its content and its status. -/
structure Image where
  valid   : Bool
  content : Content
  deriving DecidableEq, Repr

/-- A STORE in flight (R168); `age` counts the 10 ms steps since its acceptance. -/
structure StoreWrite where
  requester : PortNo
  snapshot  : Content
  age       : Nat
  deriving DecidableEq, Repr

/-! ## Wash Unit and Header Line Unit (spec/04, spec/05) -/

inductive AbortCause
  | abandoned | gateTimeout | headerTrip | feedbackFault | tripHoldLimit | stationLost | supplyTrip | basinTrip
  deriving DecidableEq, Repr

/-- The wash transaction record (spec/04 section 4.2), less the fields that appear at ISOLATED, in HOLDING and in ABORTING. -/
structure Wash where
  filter         : FilterNo
  owner          : PortNo
  bank           : BankId
  letter         : Letter
  snapshot       : List Step
  stepsCompleted : Nat
  selectionTime  : Nat
  waterReached   : Bool
  volumeAdded    : Nat
  pumpDelay      : Option Nat
  blowerDelay    : Option Nat
  deriving DecidableEq, Repr

/-- The transaction's fields from ISOLATED on. `secondDue` is the model's own (log 13): a second has passed
in STEPPING that brings the step to its mark or its end, and MARK_REACHED or STEP_END has still to take it. -/
structure Run where
  isolationTime : Nat
  step          : Nat
  elapsed       : Nat
  secondDue     : Bool
  deriving DecidableEq, Repr

/-- The header state with what it carries: the transaction from CALLING to ABORTING, the gate timer's start,
the trip-hold start, the abort cause, the settling start and whether the gap expiry has been taken. -/
inductive Header
  | offline
  | idle
  | calling (w : Wash)
  | gated (w : Wash) (r : Run) (since : Nat)
  | stepping (w : Wash) (r : Run)
  | holding (w : Wash) (r : Run) (since : Nat)
  | aborting (w : Wash) (r : Option Run) (cause : AbortCause)
  | runon
  | settling (since : Nat) (gapTaken : Bool)
  deriving DecidableEq, Repr

inductive Drive
  | off | on | released
  deriving DecidableEq, Repr

/-- The drive of the four header outputs (spec/05 section 5.1). -/
structure Lines where
  pump      : Drive
  blower    : Drive
  washValve : Drive
  airValve  : Drive
  deriving DecidableEq, Repr

/-- A supervision window: its start time and the length fixed when it started (R100). -/
structure Window where
  start  : Nat
  length : Nat
  deriving DecidableEq, Repr

inductive Supervision
  | resting
  | starting (w : Window)
  | running
  | stopping (w : Window)
  | overrun
  deriving DecidableEq, Repr

/-- An input line: raw level (true is high), 10 ms steps the raw level has stood, qualified level (R96). -/
structure InputLine where
  high     : Bool
  run      : Nat
  asserted : Bool
  deriving DecidableEq, Repr

/-! ## Selection Unit, Basin Account, Wash History -/

/-- An active hold (spec/03 section 3.1). -/
structure Hold where
  port  : PortNo
  start : Nat
  deriving DecidableEq, Repr

/-- The account of the second just ended, until BASIN_ACCRUAL takes it (R113, R114): the two amounts as the state stood
over that second, whether an end event has already charged the inflow to its wash, whether a setting of the
same second already stands (R117). -/
structure Accrual where
  inflow    : Nat
  drain     : Nat
  charged   : Bool
  volumeSet : Bool
  deriving DecidableEq, Repr

/-- A history record (spec/08 section 8.1). -/
structure HistoryRecord where
  seq            : Nat
  filter         : FilterNo
  owner          : PortNo
  bank           : BankId
  letter         : Letter
  selectionTime  : Nat
  isolationTime  : Option Nat
  endTime        : Nat
  stepsCompleted : Nat
  outcome        : WashOutcome
  cause          : Option AbortCause
  volumeAdded    : Nat
  pumpDelay      : Option Nat
  blowerDelay    : Option Nat
  deriving DecidableEq, Repr

/-! ## Attention Unit (spec/10) -/

inductive PortState
  | detached | attached | quiet | lost | blocked
  deriving DecidableEq, Repr

/-- The argument of a HEADER_FAULT: an abort cause, or RUNON. -/
inductive HeaderFault
  | cause (c : AbortCause)
  | runon
  deriving DecidableEq, Repr

inductive TenureArg
  | gained | lost | holdActive | holdBroken | holdExpired
  deriving DecidableEq, Repr

inductive PostureArg
  | bank (b : BankId)
  | rejected
  deriving DecidableEq, Repr

/-- A notice: its class and its argument (spec/10 section 10.1). -/
inductive Notice
  | headerFault (a : HeaderFault)
  | call (f : FilterNo)
  | stepGate (f : FilterNo) (step : Nat)
  | washEnd (f : FilterNo) (o : WashOutcome)
  | tenure (a : TenureArg)
  | filterHeld (f : FilterNo)
  | posture (a : PostureArg)
  | peer (p : PortNo) (st : PortState)
  | reconcile (count : Nat)
  | stored (ok : Bool)
  deriving DecidableEq, Repr

inductive NoticeClass
  | headerFault | call | stepGate | washEnd | tenure | filterHeld | posture | peer | reconcile | stored
  deriving DecidableEq, Repr

/-- The ten latches of a port, each clear or pending with an argument of its class (R160). -/
structure Latches where
  headerFault : Option HeaderFault
  call        : Option FilterNo
  stepGate    : Option (FilterNo × Nat)
  washEnd     : Option (FilterNo × WashOutcome)
  tenure      : Option TenureArg
  filterHeld  : Option FilterNo
  posture     : Option PostureArg
  peer        : Option (PortNo × PortState)
  reconcile   : Option Nat
  stored      : Option Bool
  deriving DecidableEq, Repr

/-! ## Replies (R174, spec/12) -/

/-- The sixteen refusal codes (spec/09 section 9.6). -/
inductive RefusalCode
  | badFormat | notAttached | badFilter | notOwner | wrongState | wrongStep | floor | locked | noLock | activeBank
  | switchPending | range | interlock | invalid | storeBusy | notRipe
  deriving DecidableEq, Repr

/-- One entry of the QUEUE view (R38). -/
structure QueueLine where
  filter    : FilterNo
  owner     : PortNo
  cls       : Class
  queueTime : Nat
  eligible  : Bool
  deriving DecidableEq, Repr

/-- The HEADER view (R143). -/
structure HeaderView where
  header    : Header
  active    : BankId
  remaining : Option Nat
  outputs   : Lines
  pump      : Supervision
  blower    : Supervision
  inputs    : PerInput Bool
  holder    : Option PortNo
  budget    : Nat
  hold      : Option Hold
  holdFlags : ByPort Bool
  deriving DecidableEq, Repr

/-- The BASIN view (R120). -/
structure BasinView where
  volume      : Nat
  capacity    : Nat
  headroom    : Nat
  returnRate  : Nat
  basinHigh   : Bool
  basinEmpty  : Bool
  returnRun   : Bool
  plannedA    : Nat
  plannedB    : Nat
  volumeAdded : Option Nat
  deriving DecidableEq, Repr

/-- The PORTS view (R144). -/
structure PortsView where
  sender   : PortNo
  named    : PortNo
  states   : ByPort PortState
  eligible : ByPort Nat
  name     : Option (List Nat)
  lock     : Option Lock
  switch   : Option PendingSwitch
  deriving DecidableEq, Repr

/-- The data of an ACCEPTED reply. -/
inductive ReplyData
  | none
  | attach (port : PortNo)
  | attention (fetched : Option Notice) (mask : BitVec 10) (waiting : BitVec 10)
  | standing (active : Bool)
  | filter (number : FilterNo) (record : Option Filter)
  | queue (count start : Nat) (lines : List QueueLine)
  | header (v : HeaderView)
  | basin (v : BasinView)
  | policy (bank : BankId) (item : PolicyItem) (value : Nat)
  | recipe (bank : BankId) (letter : Letter) (number count : Nat) (step : Option Step)
  | plant (setting : Setting) (value : Nat)
  | assign (number : FilterNo) (entry : Option Assignment)
  | history (count : Nat) (record : HistoryRecord)
  | ports (v : PortsView)
  | clock (clock nextSeq count : Nat)
  deriving DecidableEq, Repr

inductive Answer
  | accepted (data : ReplyData)
  | refused (code : RefusalCode)
  deriving DecidableEq, Repr

/-- A reply waiting in a port's reply queue: the kind and the tag of its request, and the answer (R151). -/
structure Reply where
  kind   : Nat
  tag    : Nat
  answer : Answer
  deriving DecidableEq, Repr

/-! ## Station ports (spec/09) -/

/-- The receive state (spec/09 section 9.2); FRAMING holds the characters gathered after the start byte. -/
inductive Receiver
  | hunting
  | framing (got : List Byte)
  | resync
  deriving DecidableEq, Repr

inductive BitRate
  | b19200 | b57600 | b115200
  deriving DecidableEq, Repr

/-- One station port with its part of the Attention Unit. -/
structure Port where
  state    : PortState
  name     : Option (List Nat)
  badCount : Nat
  receiver : Receiver
  replies  : List Reply
  lastGood : Nat
  latches  : Latches
  mask     : BitVec 10
  txFrame  : Option (List Byte)
  deriving DecidableEq, Repr

/-- Whether the image load is under way, with the 10 ms steps it has run, or complete (R165, R166). -/
inductive Phase
  | loading (steps : Nat)
  | running
  deriving DecidableEq, Repr

end Sys2Proof.Machine
end

