-- ==== Sys2Proof/Machine/Defaults.lean ====
section
/-! DEFINITION. The values the manual fixes: the defaults of banks and plant settings, start-up records, fixed times. -/

namespace Sys2Proof.Machine

/-- A bank of defaults (spec/07 section 7.1, R166), with recipes of no steps. -/
def Bank.default : Bank where
  floor := 4
  headLossLimit := 2200
  turbidityLimit := 300
  returnLimit := 150
  runTimeLimit := 72
  runLength := 2
  holdLimit := 1800
  callWindow := 900
  gateWindow := 120
  tripHoldLimit := 180
  feedbackWindow := 10
  headerGap := 300
  ripeningLimit := 3600
  recipeA := []
  recipeB := []

/-- The default plant settings (R122). -/
def Plant.default : Plant where
  capacity := 400000
  returnRate := 30
  quietTime := 5
  lostTime := 30
  activeLow := PerInput.const false
  qualify := PerInput.const 100
  stormEnable := false

/-- What the load uses when the image is invalid (R166): every filter absent. -/
def Content.default : Content where
  normal := Bank.default
  storm := Bank.default
  plant := Plant.default
  assignments := Table.const none

/-- All ten latches clear (R160). -/
def Latches.clear : Latches where
  headerFault := none
  call := none
  stepGate := none
  washEnd := none
  tenure := none
  filterHeld := none
  posture := none
  peer := none
  reconcile := none
  stored := none

/-- A port at power-on and at the release of the RESET pin (R147, R160); the receiver waits for an idle line
(R147; spec/11 section 11.2), the time of the last good frame is the model's (log 11). -/
def Port.start : Port where
  state := .detached
  name := none
  badCount := 0
  receiver := .resync
  replies := []
  lastGood := 0
  latches := Latches.clear
  mask := 0
  txFrame := none

/-- All four outputs OFF (R90, R91). -/
def Lines.allOff : Lines := ⟨.off, .off, .off, .off⟩

/-- An input at power-on: its raw level as the plant has it, nothing measured, deasserted (R97). -/
def InputLine.start (high : Bool) : InputLine := ⟨high, 0, false⟩

/-- The record of a filter that becomes present (R1, R2). -/
def Filter.fresh (a : Assignment) : Filter where
  owner := a.owner
  letter := a.letter
  service := .unknown
  figures := none
  lapses := 0
  washes := 0
  lastWash := none

/-- The bit rate that the straps RATE0 and RATE1 set (R147). -/
def BitRate.ofStraps : Bool → Bool → BitRate
  | false, false => .b19200
  | true, false => .b57600
  | false, true => .b115200
  | true, true => .b19200

/-- The lock expiry falls 600 s after the lock time (R127). -/
def lockLimit : Nat := 600

/-- The image load takes about 50 ms (R165): five 10 ms steps in the idle step (log 7). -/
def loadSteps : Nat := 5

/-- The write of the store image completes between 0.5 s and 3 s (R169): 50 to 300 steps of 10 ms. -/
def storeMinSteps : Nat := 50

def storeMaxSteps : Nat := 300

/-- The last plant clock second of spec/00_scope.md "Units and ranges". -/
def lastSecond : Nat := 4294967295

/-- A port holds at most four waiting replies (R151). -/
def replyLimit : Nat := 4

/-- The history holds at most sixteen records (R139). -/
def historyLimit : Nat := 16

/-- The consecutive-bad count at which a port is BLOCKED (R150). -/
def badLimit : Nat := 8

/-- The lapse count at which a filter is held out (R67). -/
def lapseLimit : Nat := 3

/-- A recipe holds at most eight steps (spec/07 section 7.1). -/
def stepLimit : Nat := 8

end Sys2Proof.Machine
end

