-- ==== Sys2Proof/Machine/Operands.lean ====
section
/-! DEFINITION. Operand forms: the numbers a telegram carries, read as names with their ranges (spec/12 sections 12.2
and 12.3), and the codes of the names. -/

namespace Sys2Proof.Machine

/-! ## Filters and ports -/

/-- A filter number, 1 to 32. -/
def filterOf (n : Nat) : Option FilterNo :=
  if h : 1 ≤ n ∧ n ≤ 32 then some ⟨n - 1, by omega⟩ else none

/-- The filter number of a place. -/
def numberOf (f : FilterNo) : Nat := f.val + 1

def portOf (n : Nat) : Option PortNo := if h : n < 4 then some ⟨n, h⟩ else none

/-- The number after a two-byte count, which wraps: 65 535 is followed by 0 (R20, R139). -/
def next16 (n : Nat) : Nat := if n = 65535 then 0 else n + 1

/-! ## Value sets (spec/12 section 12.3) -/

/-- ROUTINE 1, PROMPT 2, URGENT 3; the classes rise in this order (R7). -/
def Class.code : Class → Nat
  | .routine => 1
  | .prompt => 2
  | .urgent => 3

def classOf : Nat → Option Class
  | 1 => some .routine
  | 2 => some .prompt
  | 3 => some .urgent
  | _ => none

def BankId.code : BankId → Nat
  | .normal => 0
  | .storm => 1

def bankOf : Nat → Option BankId
  | 0 => some .normal
  | 1 => some .storm
  | _ => none

/-- The other bank: the standby bank of an active one (R121). -/
def BankId.other : BankId → BankId
  | .normal => .storm
  | .storm => .normal

def Letter.code : Letter → Nat
  | .a => 0
  | .b => 1

def letterOf : Nat → Option Letter
  | 0 => some .a
  | 1 => some .b
  | _ => none

def Mode.code : Mode → Nat
  | .off => 0
  | .on => 1
  | .onAtMark => 2
  | .offAtMark => 3
  | .released => 4

def modeOf : Nat → Option Mode
  | 0 => some .off
  | 1 => some .on
  | 2 => some .onAtMark
  | 3 => some .offAtMark
  | 4 => some .released
  | _ => none

/-- WASH_PUMP and BLOWER take every mode but RELEASED (R94). -/
def machineModeOf (n : Nat) : Option Mode := if n = 4 then none else modeOf n

/-- A flag byte is no when 0 and yes for any other value (R174). -/
def flagOf (n : Nat) : Bool := n != 0

/-- Inputs are numbered 1 to 8. -/
def numberOfInput : Input → Nat
  | .headerTrip => 1
  | .supplyLow => 2
  | .basinHigh => 3
  | .basinEmpty => 4
  | .returnRun => 5
  | .pumpRun => 6
  | .blowerRun => 7
  | .storm => 8

def inputOf : Nat → Option Input
  | 1 => some .headerTrip
  | 2 => some .supplyLow
  | 3 => some .basinHigh
  | 4 => some .basinEmpty
  | 5 => some .returnRun
  | 6 => some .pumpRun
  | 7 => some .blowerRun
  | 8 => some .storm
  | _ => none

/-! ## Policy items (spec/07 section 7.1) -/

def PolicyItem.number : PolicyItem → Nat
  | .floor => 1
  | .headLossLimit => 2
  | .turbidityLimit => 3
  | .returnLimit => 4
  | .runTimeLimit => 5
  | .runLength => 6
  | .holdLimit => 7
  | .callWindow => 8
  | .gateWindow => 9
  | .tripHoldLimit => 10
  | .feedbackWindow => 11
  | .headerGap => 12
  | .ripeningLimit => 13

def itemOf : Nat → Option PolicyItem
  | 1 => some .floor
  | 2 => some .headLossLimit
  | 3 => some .turbidityLimit
  | 4 => some .returnLimit
  | 5 => some .runTimeLimit
  | 6 => some .runLength
  | 7 => some .holdLimit
  | 8 => some .callWindow
  | 9 => some .gateWindow
  | 10 => some .tripHoldLimit
  | 11 => some .feedbackWindow
  | 12 => some .headerGap
  | 13 => some .ripeningLimit
  | _ => none

/-- The range of each item, both ends included. -/
def PolicyItem.range : PolicyItem → Nat × Nat
  | .floor => (1, 32)
  | .headLossLimit => (300, 4000)
  | .turbidityLimit => (50, 5000)
  | .returnLimit => (50, 1000)
  | .runTimeLimit => (12, 240)
  | .runLength => (1, 8)
  | .holdLimit => (60, 7200)
  | .callWindow => (60, 3600)
  | .gateWindow => (10, 600)
  | .tripHoldLimit => (30, 900)
  | .feedbackWindow => (2, 60)
  | .headerGap => (0, 1800)
  | .ripeningLimit => (300, 14400)

def PolicyItem.accepts (i : PolicyItem) (v : Nat) : Bool := i.range.1 ≤ v && v ≤ i.range.2

def Bank.item (b : Bank) : PolicyItem → Nat
  | .floor => b.floor
  | .headLossLimit => b.headLossLimit
  | .turbidityLimit => b.turbidityLimit
  | .returnLimit => b.returnLimit
  | .runTimeLimit => b.runTimeLimit
  | .runLength => b.runLength
  | .holdLimit => b.holdLimit
  | .callWindow => b.callWindow
  | .gateWindow => b.gateWindow
  | .tripHoldLimit => b.tripHoldLimit
  | .feedbackWindow => b.feedbackWindow
  | .headerGap => b.headerGap
  | .ripeningLimit => b.ripeningLimit

def Bank.setItem (b : Bank) (v : Nat) : PolicyItem → Bank
  | .floor => { b with floor := v }
  | .headLossLimit => { b with headLossLimit := v }
  | .turbidityLimit => { b with turbidityLimit := v }
  | .returnLimit => { b with returnLimit := v }
  | .runTimeLimit => { b with runTimeLimit := v }
  | .runLength => { b with runLength := v }
  | .holdLimit => { b with holdLimit := v }
  | .callWindow => { b with callWindow := v }
  | .gateWindow => { b with gateWindow := v }
  | .tripHoldLimit => { b with tripHoldLimit := v }
  | .feedbackWindow => { b with feedbackWindow := v }
  | .headerGap => { b with headerGap := v }
  | .ripeningLimit => { b with ripeningLimit := v }

def Bank.recipe (b : Bank) : Letter → List Step
  | .a => b.recipeA
  | .b => b.recipeB

def Bank.setRecipe (b : Bank) (steps : List Step) : Letter → Bank
  | .a => { b with recipeA := steps }
  | .b => { b with recipeB := steps }

/-! ## Plant settings (R122) -/

/-- A setting number with its input number; the input byte is not read for a setting that is not per input (R174). -/
def settingOf (n input : Nat) : Option Setting :=
  match n with
  | 1 => some .capacity
  | 2 => some .returnRate
  | 3 => some .quietTime
  | 4 => some .lostTime
  | 5 => (inputOf input).map .polarity
  | 6 => (inputOf input).map .qualify
  | 7 => some .stormEnable
  | _ => none

def Setting.number : Setting → Nat
  | .capacity => 1
  | .returnRate => 2
  | .quietTime => 3
  | .lostTime => 4
  | .polarity _ => 5
  | .qualify _ => 6
  | .stormEnable => 7

/-- The input number of a per-input setting, 0 for the others (spec/12 section 12.4). -/
def Setting.inputNumber : Setting → Nat
  | .polarity i => numberOfInput i
  | .qualify i => numberOfInput i
  | .capacity | .returnRate | .quietTime | .lostTime | .stormEnable => 0

/-- A setting's own range (R122), with the order of quiet and lost time against the present other (R132). -/
def Plant.accepts (plant : Plant) (v : Nat) : Setting → Bool
  | .capacity => 10000 ≤ v && v ≤ 9999000
  | .returnRate => v ≤ 2000
  | .quietTime => 2 ≤ v && v ≤ 60 && v < plant.lostTime
  | .lostTime => 5 ≤ v && v ≤ 300 && plant.quietTime < v
  | .polarity _ => v ≤ 1
  | .qualify _ => v ≤ 2000 && v % 10 = 0
  | .stormEnable => v ≤ 1

def Plant.value (plant : Plant) : Setting → Nat
  | .capacity => plant.capacity
  | .returnRate => plant.returnRate
  | .quietTime => plant.quietTime
  | .lostTime => plant.lostTime
  | .polarity i => (plant.activeLow.get i).toNat
  | .qualify i => plant.qualify.get i
  | .stormEnable => plant.stormEnable.toNat

def Plant.setValue (plant : Plant) (v : Nat) : Setting → Plant
  | .capacity => { plant with capacity := v }
  | .returnRate => { plant with returnRate := v }
  | .quietTime => { plant with quietTime := v }
  | .lostTime => { plant with lostTime := v }
  | .polarity i => { plant with activeLow := plant.activeLow.set i (v == 1) }
  | .qualify i => { plant with qualify := plant.qualify.set i v }
  | .stormEnable => { plant with stormEnable := v == 1 }

/-! ## Recipe steps (R94, R95) -/

/-- The span of step elapsed time in which a mode drives its line ON: from the first, up to the second (R95). -/
def Mode.onInterval (m : Mode) (mark duration : Nat) : Nat × Nat :=
  match m with
  | .off => (0, 0)
  | .on => (0, duration)
  | .onAtMark => (mark, duration)
  | .offAtMark => (0, mark)
  | .released => (0, 0)

/-- An empty interval lies within any interval (R95). -/
def within (a b : Nat × Nat) : Bool := a.2 ≤ a.1 || (b.1 ≤ a.1 && a.2 ≤ b.2)

/-- The two interlocks of R95. -/
def Step.interlocked (st : Step) : Bool :=
  within (st.pump.onInterval st.mark st.duration) (st.washValve.onInterval st.mark st.duration) &&
    within (st.blower.onInterval st.mark st.duration) (st.airValve.onInterval st.mark st.duration)

/-- The field tests of R94. The gate is bit 0 of the last byte and the trip response bit 1; its other bits are not read (log 18). -/
def stepOf (r : StepRecord) : Option Step :=
  if 10 ≤ r.duration ∧ r.duration ≤ 1800 ∧ r.mark ≤ r.duration ∧ r.flow ≤ 2000 then
    match machineModeOf r.pump, machineModeOf r.blower, modeOf r.washValve, modeOf r.airValve with
    | some wp, some bl, some wv, some av =>
        some { duration := r.duration, mark := r.mark, pump := wp, blower := bl, washValve := wv, airValve := av,
               flow := r.flow, gate := r.flags.testBit 0, response := if r.flags.testBit 1 then .abort else .hold }
    | _, _, _, _ => none
  else none

/-- The seconds of a step in which its WASH_PUMP mode drives the pump ON (R119). -/
def Step.pumpSeconds (st : Step) : Nat :=
  (st.pump.onInterval st.mark st.duration).2 - (st.pump.onInterval st.mark st.duration).1

/-- The planned volume of a recipe (R119). -/
def plannedVolume (steps : List Step) : Nat := (steps.map fun st => st.flow * st.pumpSeconds).sum

/-! ## Declared states (R171) -/

inductive Declared
  | inService | heldOut | needsWash
  deriving DecidableEq, Repr

def declaredOf : Nat → Option Declared
  | 1 => some .inService
  | 2 => some .heldOut
  | 3 => some .needsWash
  | _ => none

end Sys2Proof.Machine
end

