-- ==== Sys2Proof/Machine/Flags.lean ====
section
/-! DEFINITION. The notice latches of a port, their mask, and the attention line they drive (spec/10). -/

namespace Sys2Proof.Machine

/-- The ten classes by priority, highest first (spec/10 section 10.1). -/
def allClasses : List NoticeClass :=
  [.headerFault, .call, .stepGate, .washEnd, .tenure, .filterHeld, .posture, .peer, .reconcile, .stored]

/-- The bit of a class in a mask and in a pending set: its priority less one (spec/12 section 12.2). -/
def NoticeClass.bit : NoticeClass → Nat
  | .headerFault => 0
  | .call => 1
  | .stepGate => 2
  | .washEnd => 3
  | .tenure => 4
  | .filterHeld => 5
  | .posture => 6
  | .peer => 7
  | .reconcile => 8
  | .stored => 9

/-- A notice replaces the argument of its class's latch and leaves the other nine (R161). -/
def Latches.post (l : Latches) : Notice → Latches
  | .headerFault a => { l with headerFault := some a }
  | .call f => { l with call := some f }
  | .stepGate f step => { l with stepGate := some (f, step) }
  | .washEnd f o => { l with washEnd := some (f, o) }
  | .tenure a => { l with tenure := some a }
  | .filterHeld f => { l with filterHeld := some f }
  | .posture a => { l with posture := some a }
  | .peer p st => { l with peer := some (p, st) }
  | .reconcile count => { l with reconcile := some count }
  | .stored ok => { l with stored := some ok }

/-- The notice pending in a class's latch. -/
def Latches.notice (l : Latches) : NoticeClass → Option Notice
  | .headerFault => l.headerFault.map .headerFault
  | .call => l.call.map .call
  | .stepGate => l.stepGate.map fun a => .stepGate a.1 a.2
  | .washEnd => l.washEnd.map fun a => .washEnd a.1 a.2
  | .tenure => l.tenure.map .tenure
  | .filterHeld => l.filterHeld.map .filterHeld
  | .posture => l.posture.map .posture
  | .peer => l.peer.map fun a => .peer a.1 a.2
  | .reconcile => l.reconcile.map .reconcile
  | .stored => l.stored.map .stored

def Latches.clearClass (l : Latches) : NoticeClass → Latches
  | .headerFault => { l with headerFault := none }
  | .call => { l with call := none }
  | .stepGate => { l with stepGate := none }
  | .washEnd => { l with washEnd := none }
  | .tenure => { l with tenure := none }
  | .filterHeld => { l with filterHeld := none }
  | .posture => { l with posture := none }
  | .peer => { l with peer := none }
  | .reconcile => { l with reconcile := none }
  | .stored => { l with stored := none }

def Latches.isPending (l : Latches) (c : NoticeClass) : Bool := (l.notice c).isSome

/-- A 1 in the mask marks the class masked (spec/12 section 12.2). -/
def masked (mask : BitVec 10) (c : NoticeClass) : Bool := mask.getLsbD c.bit

/-- The unmasked pending class of highest priority (R163 step 2). -/
def Latches.firstUnmasked (l : Latches) (mask : BitVec 10) : Option NoticeClass :=
  allClasses.find? fun c => l.isPending c && !masked mask c

/-- The set of pending classes, with bits as in the mask (R163 step 3). -/
def Latches.pendingSet (l : Latches) : BitVec 10 :=
  (allClasses.map fun c => if l.isPending c then BitVec.twoPow 10 c.bit else 0#10).foldl (· ||| ·) 0#10

def Port.post (q : Port) (n : Notice) : Port := { q with latches := q.latches.post n }

/-- The attention line is asserted exactly while an unmasked latch is pending (R162). -/
def Port.attentionLine (q : Port) : Bool := allClasses.any fun c => q.latches.isPending c && !masked q.mask c

/-- An attached port is a port in ATTACHED or QUIET (spec/09 section 9.4). -/
def PortState.isAttached : PortState → Bool
  | .attached => true
  | .quiet => true
  | .detached => false
  | .lost => false
  | .blocked => false

end Sys2Proof.Machine
end

