-- ==== Sys2Proof/Machine/Layout.lean ====
section
/-! DEFINITION. The byte layouts of replies (spec/12 sections 12.3 and 12.4, R174): codes, record bodies, reply frames. -/

namespace Sys2Proof.Machine

/-! ## Codes (spec/12 section 12.3) -/

/-- The sixteen codes in order, 0x01 to 0x10. -/
def RefusalCode.code : RefusalCode → Nat
  | .badFormat => 1
  | .notAttached => 2
  | .badFilter => 3
  | .notOwner => 4
  | .wrongState => 5
  | .wrongStep => 6
  | .floor => 7
  | .locked => 8
  | .noLock => 9
  | .activeBank => 10
  | .switchPending => 11
  | .range => 12
  | .interlock => 13
  | .invalid => 14
  | .storeBusy => 15
  | .notRipe => 16

/-- ABSENT 0 to HELD_OUT 7, in the order of spec/01 section 1.2. -/
def serviceCode : Option Service → Nat
  | none => 0
  | some .unknown => 1
  | some (.inService _) => 2
  | some (.due _ _) => 3
  | some (.called _ _) => 4
  | some (.washing _ _) => 5
  | some (.ripening _) => 6
  | some (.heldOut _) => 7

/-- OFFLINE 0 to SETTLING 8, in the order of spec/04 section 4.1. -/
def Header.code : Header → Nat
  | .offline => 0
  | .idle => 1
  | .calling _ => 2
  | .gated _ _ _ => 3
  | .stepping _ _ => 4
  | .holding _ _ _ => 5
  | .aborting _ _ _ => 6
  | .runon => 7
  | .settling _ _ => 8

def PortState.code : PortState → Nat
  | .detached => 0
  | .attached => 1
  | .quiet => 2
  | .lost => 3
  | .blocked => 4

def HeldReason.code : HeldReason → Nat
  | .station => 1
  | .stationForced => 2
  | .callLapse => 3
  | .ripenTimeout => 4
  | .washIncomplete => 5

def WashOutcome.code : WashOutcome → Nat
  | .complete => 1
  | .abortedBeforeWater => 2
  | .abortedAfterWater => 3

/-- 1 to 8, in the order of spec/04 section 4.2. -/
def AbortCause.code : AbortCause → Nat
  | .abandoned => 1
  | .gateTimeout => 2
  | .headerTrip => 3
  | .feedbackFault => 4
  | .tripHoldLimit => 5
  | .stationLost => 6
  | .supplyTrip => 7
  | .basinTrip => 8

def HeaderFault.code : HeaderFault → Nat
  | .cause c => c.code
  | .runon => 9

def Drive.code : Drive → Nat
  | .off => 0
  | .on => 1
  | .released => 2

def Supervision.code : Supervision → Nat
  | .resting => 0
  | .starting _ => 1
  | .running => 2
  | .stopping _ => 3
  | .overrun => 4

def TenureArg.code : TenureArg → Nat
  | .gained => 1
  | .lost => 2
  | .holdActive => 3
  | .holdBroken => 4
  | .holdExpired => 5

def PostureArg.code : PostureArg → Nat
  | .bank b => b.code
  | .rejected => 2

def Origin.code : Origin → Nat
  | .station => 0
  | .line => 1

/-! ## Field helpers -/

def le8 (n : Nat) : List Byte := [byteOf n]

/-- Bits, the first the lowest. -/
def bitsOf : List Bool → Nat
  | [] => 0
  | b :: bs => b.toNat + 2 * bitsOf bs

/-- The number lies in the range of a four-byte signed field. -/
def fitsSigned32 (z : Int) : Bool := -2147483648 ≤ z && z ≤ 2147483647

/-- A four-byte signed number (R172). A service start of 2 147 483 648 or more, which the clock's range allows, fits no such field and
the manual states no bytes for it: they are a free value, the model's choice (log 30). -/
def leSigned32 (z : Int) : List Byte :=
  le32 (if fitsSigned32 z then BitVec.ofInt 32 z else Config.overflowServiceStart z).toNat

/-- An absent optional field is sent as zero (R174). -/
def optNat (n : Option Nat) : Nat := n.getD 0

/-- A port, or 0xFF for none. -/
def portOrNone (p : Option PortNo) : Nat := (p.map Fin.val).getD 255

/-! ## Record bodies -/

def Reasons.bits (r : Reasons) : Nat := bitsOf [r.headloss, r.turbidity, r.runtime, r.station.isSome]

/-- The due fields of a record. -/
def Service.dueFields : Service → Option Due
  | .due d _ => some d
  | .called d _ => some d
  | .washing d _ => some d
  | .unknown | .inService _ | .ripening _ | .heldOut _ => none

def Service.start : Service → Option Int
  | .inService st => some st
  | .due _ st => some st
  | .called _ st => some st
  | .washing _ st => some st
  | .unknown | .ripening _ | .heldOut _ => none

def Service.ripeningStart : Service → Option Nat
  | .ripening st => some st
  | .unknown | .inService _ | .due _ _ | .called _ _ | .washing _ _ | .heldOut _ => none

def Service.heldReason : Service → Option HeldReason
  | .heldOut r => some r
  | .unknown | .inService _ | .due _ _ | .called _ _ | .washing _ _ | .ripening _ => none

/-- The filter record (39 bytes). -/
def filterBytes (f : FilterNo) (rec : Option Filter) : List Byte :=
  let service := rec.map Filter.service
  let due := service.bind Service.dueFields
  let station := due.bind fun d => d.reasons.station
  let figures := rec.bind Filter.figures
  let start := service.bind Service.start
  let ripening := service.bind Service.ripeningStart
  let held := service.bind Service.heldReason
  let last := rec.bind Filter.lastWash
  le8 (numberOf f) ++ le8 (serviceCode service) ++ le8 rec.isSome.toNat ++
  le8 (optNat (rec.map fun r => r.owner.val)) ++ le8 (optNat (rec.map fun r => r.letter.code)) ++
  le16 (bitsOf [rec.isSome, due.isSome, station.isSome, due.isSome, due.isSome, figures.isSome, start.isSome,
    rec.isSome, ripening.isSome, held.isSome, rec.isSome, last.isSome]) ++
  le8 (optNat (due.map fun d => d.reasons.bits)) ++ le8 (optNat (station.map Class.code)) ++
  le8 (optNat (due.map fun d => d.cls.code)) ++ le32 (optNat (due.map Due.queueTime)) ++
  le16 (optNat (figures.map Figures.headLoss)) ++ le16 (optNat (figures.map Figures.turbidity)) ++
  le32 (optNat (figures.map Figures.time)) ++ leSigned32 (start.getD 0) ++ le8 (optNat (rec.map Filter.lapses)) ++
  le32 (optNat ripening) ++ le8 (optNat (held.map HeldReason.code)) ++ le16 (optNat (rec.map Filter.washes)) ++
  le32 (optNat (last.map LastWash.endTime)) ++ le8 (optNat (last.map fun l => l.outcome.code))

def QueueLine.bytes (l : QueueLine) : List Byte :=
  le8 (numberOf l.filter + 128 * l.eligible.toNat) ++ le8 (l.owner.val + 16 * l.cls.code) ++ le32 l.queueTime

/-- The run of a transaction, where ISOLATED has been taken. -/
def Header.run : Header → Option Run
  | .gated _ r _ => some r
  | .stepping _ r => some r
  | .holding _ r _ => some r
  | .aborting _ r _ => r
  | .offline | .idle | .calling _ | .runon | .settling _ _ => none

/-- The trip-hold start, in HOLDING. -/
def Header.tripHoldStart : Header → Option Nat
  | .holding _ _ since => some since
  | .offline | .idle | .calling _ | .gated _ _ _ | .stepping _ _ | .aborting _ _ _ | .runon | .settling _ _ => none

/-- The abort cause, in ABORTING. -/
def Header.cause : Header → Option AbortCause
  | .aborting _ _ c => some c
  | .offline | .idle | .calling _ | .gated _ _ _ | .stepping _ _ | .holding _ _ _ | .runon | .settling _ _ => none

def Header.transaction : Header → Option Wash
  | .calling w => some w
  | .gated w _ _ => some w
  | .stepping w _ => some w
  | .holding w _ _ => some w
  | .aborting w _ _ => some w
  | .offline | .idle | .runon | .settling _ _ => none

/-- The start of the window a pair runs (R100). -/
def Supervision.windowStart : Supervision → Option Nat
  | .starting w => some w.start
  | .stopping w => some w.start
  | .resting | .running | .overrun => none

def Lines.bits (l : Lines) : Nat := l.pump.code + 4 * l.blower.code + 16 * l.washValve.code + 64 * l.airValve.code

def inputBits (v : PerInput Bool) : Nat :=
  bitsOf [v.headerTrip, v.supplyLow, v.basinHigh, v.basinEmpty, v.returnRun, v.pumpRun, v.blowerRun, v.storm]

/-- The header view (52 bytes). -/
def HeaderView.bytes (v : HeaderView) : List Byte :=
  let w := v.header.transaction
  let run := v.header.run
  let pumpDelay := w.bind Wash.pumpDelay
  let blowerDelay := w.bind Wash.blowerDelay
  le8 v.header.code ++ le8 v.active.code ++
  le16 (bitsOf [w.isSome, run.isSome, pumpDelay.isSome, blowerDelay.isSome, v.header.tripHoldStart.isSome,
    v.header.cause.isSome, v.remaining.isSome, v.pump.windowStart.isSome, v.blower.windowStart.isSome,
    v.hold.isSome]) ++
  le8 (optNat (w.map fun x => numberOf x.filter)) ++ le8 (optNat (w.map fun x => x.owner.val)) ++
  le8 (optNat (w.map fun x => x.bank.code + 2 * x.letter.code + 4 * x.waterReached.toNat)) ++
  le8 (optNat (w.map fun x => x.snapshot.length)) ++ le8 (optNat (w.map Wash.stepsCompleted)) ++
  le8 (optNat (run.map Run.step)) ++ le16 (optNat (run.map Run.elapsed)) ++
  le32 (optNat (w.map Wash.selectionTime)) ++ le32 (optNat (run.map Run.isolationTime)) ++
  le32 (optNat (w.map Wash.volumeAdded)) ++ le8 (optNat pumpDelay) ++ le8 (optNat blowerDelay) ++
  le32 (optNat v.header.tripHoldStart) ++ le8 (optNat (v.header.cause.map AbortCause.code)) ++
  le16 (optNat v.remaining) ++ le8 v.outputs.bits ++ le8 (v.pump.code + 16 * v.blower.code) ++
  le32 (optNat v.pump.windowStart) ++ le32 (optNat v.blower.windowStart) ++ le8 (inputBits v.inputs) ++
  le8 (portOrNone v.holder) ++ le8 v.budget ++ le8 (portOrNone (v.hold.map Hold.port)) ++
  le32 (optNat (v.hold.map Hold.start)) ++
  le8 (bitsOf [v.holdFlags.p0, v.holdFlags.p1, v.holdFlags.p2, v.holdFlags.p3])

/-- The history record (27 bytes). -/
def HistoryRecord.bytes (r : HistoryRecord) : List Byte :=
  le16 r.seq ++ le8 (numberOf r.filter) ++ le8 r.owner.val ++ le8 (r.bank.code + 2 * r.letter.code) ++
  le8 (bitsOf [r.isolationTime.isSome, r.cause.isSome, r.pumpDelay.isSome, r.blowerDelay.isSome]) ++
  le32 r.selectionTime ++ le32 (optNat r.isolationTime) ++ le32 r.endTime ++ le8 r.stepsCompleted ++
  le8 r.outcome.code ++ le8 (optNat (r.cause.map AbortCause.code)) ++ le32 r.volumeAdded ++
  le8 (optNat r.pumpDelay) ++ le8 (optNat r.blowerDelay)

/-- A notice's class code and its two argument bytes (spec/12 section 12.4, ATTENTION reply). -/
def Notice.codes : Notice → Nat × Nat × Nat
  | .headerFault a => (1, a.code, 0)
  | .call f => (2, numberOf f, 0)
  | .stepGate f step => (3, numberOf f, step)
  | .washEnd f o => (4, numberOf f, o.code)
  | .tenure a => (5, a.code, 0)
  | .filterHeld f => (6, numberOf f, 0)
  | .posture a => (7, a.code, 0)
  | .peer p st => (8, p.val, st.code)
  | .reconcile count => (9, count, 0)
  | .stored ok => (10, if ok then 1 else 2, 0)

/-- Class NONE is code 0 with both argument bytes 0. -/
def noticeBytes (n : Option Notice) : List Byte :=
  let c := (n.map Notice.codes).getD (0, 0, 0)
  le8 c.1 ++ le8 c.2.1 ++ le8 c.2.2

/-- The basin view (28 bytes). -/
def BasinView.bytes (v : BasinView) : List Byte :=
  le8 v.volumeAdded.isSome.toNat ++ le32 v.volume ++ le32 v.capacity ++ le32 v.headroom ++ le16 v.returnRate ++
  le8 (bitsOf [v.basinHigh, v.basinEmpty, v.returnRun]) ++ le32 v.plannedA ++ le32 v.plannedB ++
  le32 (optNat v.volumeAdded)

/-- The recipe step record (11 bytes). -/
def Step.bytes (st : Step) : List Byte :=
  le16 st.duration ++ le16 st.mark ++ le8 st.pump.code ++ le8 st.blower.code ++ le8 st.washValve.code ++
  le8 st.airValve.code ++ le16 st.flow ++ le8 (bitsOf [st.gate, st.response == .abort])

def zeros (n : Nat) : List Byte := List.replicate n 0

/-- The ports view (34 bytes). -/
def PortsView.bytes (v : PortsView) : List Byte :=
  let name := (v.name.getD []).map byteOf
  le8 v.sender.val ++ le8 v.named.val ++ le8 (bitsOf [v.lock.isSome, v.switch.isSome, v.name.isSome]) ++
  le8 v.states.p0.code ++ le8 v.states.p1.code ++ le8 v.states.p2.code ++ le8 v.states.p3.code ++
  le8 v.eligible.p0 ++ le8 v.eligible.p1 ++ le8 v.eligible.p2 ++ le8 v.eligible.p3 ++
  le8 (portOrNone (v.lock.map Lock.holder)) ++ le32 (optNat (v.lock.map Lock.time)) ++
  le8 (optNat (v.switch.map fun x => x.target.code)) ++ le8 (optNat (v.switch.map fun x => x.origin.code)) ++
  name ++ zeros (16 - name.length)

/-- The bytes after the outcome of an ACCEPTED reply. -/
def ReplyData.bytes : ReplyData → List Byte
  | .none => []
  | .attach p => le8 p.val ++ le8 1
  | .attention n mask waiting => noticeBytes n ++ le16 mask.toNat ++ le16 waiting.toNat
  | .standing active => le8 (if active then 1 else 2)
  | .filter f rec => filterBytes f rec
  | .queue count start lines => le8 count ++ le8 start ++ le8 lines.length ++ lines.flatMap QueueLine.bytes
  | .header v => v.bytes
  | .basin v => v.bytes
  | .policy bank item value => le8 bank.code ++ le8 item.number ++ le32 value
  | .recipe bank letter number count step =>
      le8 bank.code ++ le8 letter.code ++ le8 number ++ le8 count ++ le8 step.isSome.toNat ++
        (step.map Step.bytes).getD (zeros 11)
  | .plant setting value => le8 setting.number ++ le8 setting.inputNumber ++ le32 value
  | .assign f entry =>
      le8 (numberOf f) ++ le8 entry.isSome.toNat ++ le8 entry.isSome.toNat ++
        le8 (optNat (entry.map fun a => a.owner.val)) ++ le8 (optNat (entry.map fun a => a.letter.code))
  | .history count r => le8 count ++ r.bytes
  | .ports v => v.bytes
  | .clock now seq held => le32 now ++ le16 seq ++ le8 held

/-- A reply's body: the outcome 0x00 and the data, or the refusal code (R174). -/
def Answer.bytes : Answer → List Byte
  | .accepted data => 0 :: data.bytes
  | .refused code => le8 code.code

/-- The kind of the request plus 0x80 (R174); where that fits no byte, a free value (log 17). -/
def replyKind (kind : Nat) : Byte := if kind < 128 then byteOf (kind + 128) else Config.overflowReplyKind kind

/-- The frame of a reply (spec/12 section 12.1). -/
def Reply.frame (r : Reply) : List Byte := Sys2Proof.frame (replyKind r.kind) (byteOf r.tag) r.answer.bytes

end Sys2Proof.Machine
end

