-- ==== Sys2Proof/Machine/State.lean ====
section
/-! DEFINITION. The state of the part, as plain data, and the state right after the release of reset. -/

namespace Sys2Proof.Machine

/-- Why the machine would stop with a fault. Nothing in the manual stops the part (R159, log 2), so there is no reason. -/
inductive Fault
  deriving DecidableEq, Repr

/-- Why a command would have no meaning. -/
inductive Refusal
  /-- Raised by `exec` alone, for a command whose meaning is not written yet; safe. No arm raises it. -/
  | notModelled (mnemonic : String)
  deriving DecidableEq, Repr

/-- The whole state. The blocks are those of spec/00_scope.md, "Blocks"; INVENTORY.md lists every field's rule. -/
structure State where
  /-- The commands waiting, first in, first out (the model's own, log 1). -/
  pending    : List Instr
  /-- Counts the free values taken (the model's own, log 12). -/
  draws      : Nat
  /-- Whether the image load is under way (R165, R166). -/
  phase      : Phase
  /-- Plant clock, seconds (R165). -/
  clock      : Nat
  /-- The 10 ms step within the second, 0 to 99. -/
  hundredth  : Nat
  /-- The common bit rate of the ports (R147). -/
  rate       : BitRate
  /-- The station ports and their latches (spec/09, spec/10). -/
  ports      : ByPort Port
  /-- The Filter Table; a filter that is absent has no record (R1). -/
  filters    : Table (Option Filter)
  /-- The rotation queue, head first (R25). -/
  queue      : List FilterNo
  /-- Tenure holder (R43). -/
  holder     : Option PortNo
  /-- Tenure budget (R43). -/
  budget     : Nat
  /-- The hold slot with its start (R43). -/
  hold       : Option Hold
  /-- The hold-request flags (R43). -/
  holdFlags  : ByPort Bool
  /-- The header state with the transaction it carries (R61, R63). -/
  header     : Header
  /-- The drive of the four outputs (R90). -/
  outputs    : Lines
  /-- Supervision of WASH_PUMP with PUMP_RUN (R100). -/
  pumpPair   : Supervision
  /-- Supervision of BLOWER with BLOWER_RUN (R100). -/
  blowerPair : Supervision
  /-- The eight input lines (R96). -/
  inputs     : PerInput InputLine
  /-- Basin volume, litres (R112). -/
  volume     : Nat
  /-- The second's account still to be taken (R113, the model's own form). -/
  accrual    : Option Accrual
  /-- The NORMAL bank (R121). -/
  normal     : Bank
  /-- The STORM bank (R121). -/
  storm      : Bank
  /-- The active bank (R121). -/
  active     : BankId
  /-- The plant settings (R122). -/
  plant      : Plant
  /-- The policy lock (R126). -/
  lock       : Option Lock
  /-- The pending posture switch (R133). -/
  switch     : Option PendingSwitch
  /-- The store image (spec/11 section 11.1). -/
  image      : Image
  /-- The STORE in flight (R168). -/
  storing    : Option StoreWrite
  /-- The wash history, newest last (R139). -/
  history    : List HistoryRecord
  /-- The next sequence number (R139). -/
  nextSeq    : Nat
  deriving DecidableEq, Repr

/-- The part at the release of the RESET pin or the rise of the supply (R165): the clock is 0, the image load begins.
The values of blocks that take their start-up state only at the end of the load, the raw levels, the straps and
the store's first content are the model's (log 6, 8, 9, 10). -/
def State.reset : State where
  pending := []
  draws := 0
  phase := .loading 0
  clock := 0
  hundredth := 0
  rate := .b19200
  ports := ByPort.const Port.start
  filters := Table.const none
  queue := []
  holder := none
  budget := 0
  hold := none
  holdFlags := ByPort.const false
  header := .offline
  outputs := Lines.allOff
  pumpPair := .resting
  blowerPair := .resting
  inputs := PerInput.const (InputLine.start false)
  volume := 400000
  accrual := none
  normal := Bank.default
  storm := Bank.default
  active := .normal
  plant := Plant.default
  lock := none
  switch := none
  image := ⟨false, Content.default⟩
  storing := none
  history := []
  nextSeq := 0

end Sys2Proof.Machine
end

