-- ==== Sys2Proof/Machine/Ops.lean ====
section
/-! DEFINITION. The named reads and writes of State that every block uses: ports, filters, banks, inputs, notices, time. -/

namespace Sys2Proof.Machine

/-! ## Ports -/

def State.port (s : State) (p : PortNo) : Port := s.ports.get p

def State.setPort (s : State) (p : PortNo) (q : Port) : State := { s with ports := s.ports.set p q }

/-- A post to a named port latches in whatever state the port is (R161). -/
def State.postTo (s : State) (p : PortNo) (n : Notice) : State := s.setPort p ((s.port p).post n)

/-- A post to every attached port (spec/09 section 9.4, R161). -/
def State.postAttached (s : State) (n : Notice) : State :=
  { s with ports := s.ports.mapIdx fun _ q => if q.state.isAttached then q.post n else q }

/-- PEER (port, new state) to every other attached port (R154). -/
def State.postPeers (s : State) (p : PortNo) : State :=
  { s with ports := s.ports.mapIdx fun i q =>
      if i ≠ p ∧ q.state.isAttached then q.post (.peer p (s.port p).state) else q }

/-! ## Filters -/

def State.filter (s : State) (f : FilterNo) : Option Filter := s.filters.get f

def State.setFilter (s : State) (f : FilterNo) (r : Option Filter) : State := { s with filters := s.filters.set f r }

/-- The assignment table's entry of a filter: present, owner and letter have one home, the record (R123, log 25). -/
def State.assignment (s : State) (f : FilterNo) : Option Assignment :=
  (s.filter f).map fun r => ⟨r.owner, r.letter⟩

def Service.inCount : Service → Bool
  | .inService _ => true
  | .due _ _ => true
  | .unknown | .called _ _ | .washing _ _ | .ripening _ | .heldOut _ => false

def Service.isUnknown : Service → Bool
  | .unknown => true
  | .inService _ | .due _ _ | .called _ _ | .washing _ _ | .ripening _ | .heldOut _ => false

/-- The in-service count: the filters IN_SERVICE or DUE (R3). -/
def State.inServiceCount (s : State) : Nat :=
  s.filters.cells.countP fun r => r.any fun x => x.service.inCount

/-- The number of present filters (spec/07 section 7.2). -/
def State.presentCount (s : State) : Nat := s.filters.cells.countP Option.isSome

/-- The UNKNOWN filters a port owns (spec/11 section 11.5). -/
def State.unknownCount (s : State) (p : PortNo) : Nat :=
  s.filters.cells.countP fun r => r.any fun x => x.service.isUnknown && x.owner == p

/-! ## Banks -/

def State.bank (s : State) : BankId → Bank
  | .normal => s.normal
  | .storm => s.storm

def State.setBank (s : State) (b : Bank) : BankId → State
  | .normal => { s with normal := b }
  | .storm => { s with storm := b }

def State.activeBank (s : State) : Bank := s.bank s.active

/-! ## Inputs and supervision pairs -/

/-- The qualified level of an input (R96). -/
def State.asserted (s : State) (i : Input) : Bool := (s.inputs.get i).asserted

/-- The raw level stands at the level its polarity names as active (R96). -/
def State.rawActive (s : State) (i : Input) : Bool := (s.inputs.get i).high != s.plant.activeLow.get i

/-- The feedback line of a pair (spec/05 section 5.4). -/
def feedbackOf : Pair → Input
  | .pump => .pumpRun
  | .blower => .blowerRun

def State.pair (s : State) : Pair → Supervision
  | .pump => s.pumpPair
  | .blower => s.blowerPair

def State.setPair (s : State) (v : Supervision) : Pair → State
  | .pump => { s with pumpPair := v }
  | .blower => { s with blowerPair := v }

def Supervision.isStopping : Supervision → Bool
  | .stopping _ => true
  | .resting | .starting _ | .running | .overrun => false

def Supervision.isOverrun : Supervision → Bool
  | .overrun => true
  | .resting | .starting _ | .running | .stopping _ => false

def State.anyStopping (s : State) : Bool := s.pumpPair.isStopping || s.blowerPair.isStopping

def State.anyOverrun (s : State) : Bool := s.pumpPair.isOverrun || s.blowerPair.isOverrun

/-! ## Time -/

/-- The clock has reached `limit` seconds from `start` (spec/00_scope.md "Events and timing"). -/
def State.reached (s : State) (start limit : Nat) : Bool := limit ≤ s.clock - start

/-- A window expires when the clock minus its start time reaches its length (R100). -/
def State.windowOver (s : State) (w : Window) : Bool := s.reached w.start w.length

/-! ## The transaction the header carries -/

/-- The transaction record, from CALLING to ABORTING (spec/04 section 4.1). -/
def Header.wash : Header → Option Wash
  | .calling w => some w
  | .gated w _ _ => some w
  | .stepping w _ => some w
  | .holding w _ _ => some w
  | .aborting w _ _ => some w
  | .offline | .idle | .runon | .settling _ _ => none

/-- The transaction and its run of a wash that can still be aborted: CALLING, GATED, STEPPING, HOLDING. -/
def Header.live : Header → Option (Wash × Option Run)
  | .calling w => some (w, none)
  | .gated w r _ => some (w, some r)
  | .stepping w r => some (w, some r)
  | .holding w r _ => some (w, some r)
  | .aborting _ _ _ | .offline | .idle | .runon | .settling _ _ => none

/-- The transaction of a WASHING filter: GATED, STEPPING, HOLDING (R62). -/
def Header.washing : Header → Option Wash
  | .gated w _ _ => some w
  | .stepping w _ => some w
  | .holding w _ _ => some w
  | .calling _ | .aborting _ _ _ | .offline | .idle | .runon | .settling _ _ => none

/-- A change of the transaction record that leaves the header state. -/
def Header.mapWash (g : Wash → Wash) : Header → Header
  | .calling w => .calling (g w)
  | .gated w r since => .gated (g w) r since
  | .stepping w r => .stepping (g w) r
  | .holding w r since => .holding (g w) r since
  | .aborting w r cause => .aborting (g w) r cause
  | .offline => .offline
  | .idle => .idle
  | .runon => .runon
  | .settling since taken => .settling since taken

def Header.isIdle : Header → Bool
  | .idle => true
  | .offline | .calling _ | .gated _ _ _ | .stepping _ _ | .holding _ _ _ | .aborting _ _ _ | .runon
  | .settling _ _ => false

/-- IDLE, SETTLING, RUNON or OFFLINE: no transaction, so a switch may be taken (R135) and a volume declared (R116). -/
def Header.isFree : Header → Bool
  | .idle | .offline | .runon | .settling _ _ => true
  | .calling _ | .gated _ _ _ | .stepping _ _ | .holding _ _ _ | .aborting _ _ _ => false

end Sys2Proof.Machine
end

