-- ==== Sys2Proof/Machine/Basin.lean ====
section
/-! DEFINITION. The basin account: the accrual of each second, settings of the volume, the headroom (spec/06). -/

namespace Sys2Proof.Machine

/-- Capacity less volume (R119). -/
def State.headroom (s : State) : Nat := s.plant.capacity - s.volume

/-- A setting of the volume stands for its second: an accrual of that second still to come leaves it (R117). -/
def State.setVolume (s : State) (v : Nat) : State :=
  { s with volume := v, accrual := s.accrual.map fun a => { a with volumeSet := true } }

/-- A capacity cut: the volume is brought down to the capacity where it lies above it (R118). -/
def State.cutVolume (s : State) : State := { s with volume := min s.volume s.plant.capacity }

/-- Litres added to the basin volume added of the transaction, where there is one (R113). -/
def State.addToWash (s : State) (litres : Nat) : State :=
  { s with header := s.header.mapWash fun w => { w with volumeAdded := w.volumeAdded + litres } }

/-- An end event adds the inflow of the second just ended to the wash, if its accrual has not been taken (R113). -/
def State.chargeAccrual (s : State) : State :=
  match s.accrual with
  | some a => if a.charged then s else { (s.addToWash a.inflow) with accrual := some { a with charged := true } }
  | none => s

/-- The accrual of the second that has just ended (R113, R117). -/
def State.takeAccrual (s : State) : State :=
  match s.accrual with
  | some a =>
      let t := if a.charged then s else s.addToWash a.inflow
      { t with
        accrual := none
        volume := if a.volumeSet then s.volume else min s.plant.capacity (s.volume + a.inflow - a.drain) }
  | none => s

end Sys2Proof.Machine
end

