-- ==== Sys2Proof/Machine/Lines.lean ====
section
/-! DEFINITION. Output patterns and feedback supervision (spec/05 sections 5.1 and 5.4). -/

namespace Sys2Proof.Machine

/-- The drive of a mode before and from the mark (R92). -/
def Mode.drive (m : Mode) (markReached : Bool) : Drive :=
  match m with
  | .off => .off
  | .on => .on
  | .onAtMark => if markReached then .on else .off
  | .offAtMark => if markReached then .off else .on
  | .released => .released

/-- The output pattern of a step at an elapsed time (R92). -/
def Step.pattern (st : Step) (elapsed : Nat) : Lines :=
  let m := decide (st.mark ≤ elapsed)
  ⟨st.pump.drive m, st.blower.drive m, st.washValve.drive m, st.airValve.drive m⟩

/-- A supervised output goes from OFF to ON (R101). -/
def Supervision.turnedOn (v : Supervision) (feedback : Bool) (w : Window) : Supervision :=
  match v with
  | .resting | .stopping _ => if feedback then .running else .starting w
  | .starting w' => .starting w'
  | .running => .running
  | .overrun => .overrun

/-- A supervised output goes from ON to OFF (R103); where the feedback is already deasserted the stop window of a
RUNNING pair ends at once (R105). -/
def Supervision.turnedOff (v : Supervision) (feedback : Bool) (w : Window) : Supervision :=
  match v with
  | .running | .starting _ => if feedback then .stopping w else .resting
  | .resting => .resting
  | .stopping w' => .stopping w'
  | .overrun => .overrun

/-- A pair meets a change of drive of its output; a line whose drive does not change is left (R90). -/
def Supervision.driven (v : Supervision) (old new : Drive) (feedback : Bool) (w : Window) : Supervision :=
  if old = new then v else if new = .on then v.turnedOn feedback w else v.turnedOff feedback w

/-- The four outputs take a new drive, and each change of WASH_PUMP or BLOWER is handed to supervision;
`length` is the feedback window of the transaction's bank (R90, R100). -/
def State.setOutputs (s : State) (new : Lines) (length : Nat) : State :=
  { s with
    outputs := new
    pumpPair := s.pumpPair.driven s.outputs.pump new.pump (s.asserted .pumpRun) ⟨s.clock, length⟩
    blowerPair := s.blowerPair.driven s.outputs.blower new.blower (s.asserted .blowerRun) ⟨s.clock, length⟩ }

/-- The feedback window of a transaction's bank (R64, R100). -/
def State.feedbackWindow (s : State) (w : Wash) : Nat := (s.bank w.bank).feedbackWindow

end Sys2Proof.Machine
end

