-- ==== Sys2Proof/Machine/Queue.lean ====
section
/-! DEFINITION. The rotation queue and the filter records that move with it (spec/02; spec/01 sections 1.3 to 1.7). -/

namespace Sys2Proof.Machine

/-! ## Keys and order (R26) -/

/-- The due fields of a DUE filter: its entry's class and queue time are read from the record (spec/02 section 2.1). -/
def State.dueFields (s : State) (f : FilterNo) : Option Due :=
  match s.filter f with
  | some r =>
    match r.service with
    | .due d _ => some d
    | .unknown | .inService _ | .called _ _ | .washing _ _ | .ripening _ | .heldOut _ => none
  | none => none

def State.isDue (s : State) (f : FilterNo) : Bool := (s.dueFields f).isSome

/-- The three keys of R26: class highest first, then the earlier queue time, then the lower filter number. -/
def keyBefore (d : Due) (f : FilterNo) (e : Due) (g : FilterNo) : Bool :=
  e.cls.code < d.cls.code ||
    (d.cls.code == e.cls.code && (d.queueTime < e.queueTime || (d.queueTime == e.queueTime && f < g)))

/-- The entry of `f` comes before the entry of `g`. -/
def State.precedes (s : State) (f g : FilterNo) : Bool :=
  match s.dueFields f, s.dueFields g with
  | some d, some e => keyBefore d f e g
  | _, _ => false

/-- An entry put in its ordered place: ahead of the first entry it comes before. -/
def placeEntry (before : FilterNo → Bool) (f : FilterNo) : List FilterNo → List FilterNo
  | [] => [f]
  | g :: gs => if before g then f :: g :: gs else g :: placeEntry before f gs

/-- Insertion under the class and queue time that the record now holds (R28, R29, R30, R40). -/
def State.enqueue (s : State) (f : FilterNo) : State := { s with queue := placeEntry (s.precedes f) f s.queue }

/-- Removal (R32). -/
def State.dequeue (s : State) (f : FilterNo) : State := { s with queue := s.queue.filter (· != f) }

/-! ## Eligibility (R34, R36, R42) -/

def State.ownerOf (s : State) (f : FilterNo) : Option PortNo := (s.filter f).map Filter.owner

/-- An entry is eligible when its owner port is ATTACHED. -/
def State.eligible (s : State) (f : FilterNo) : Bool :=
  (s.ownerOf f).any fun p => (s.port p).state == .attached

/-- The eligible entries, in queue order. -/
def State.eligibleEntries (s : State) : List FilterNo := s.queue.filter s.eligible

/-- The class of an entry. -/
def State.entryClass (s : State) (f : FilterNo) : Class := ((s.dueFields f).map Due.cls).getD .routine

/-- Some port other than `p` has an eligible entry of class `c`. -/
def State.rivalAt (s : State) (p : PortNo) (c : Class) : Bool :=
  s.eligibleEntries.any fun f => s.ownerOf f != some p && s.entryClass f == c

/-- The count of eligible entries of a port (R42). -/
def State.eligibleCount (s : State) (p : PortNo) : Nat :=
  s.eligibleEntries.countP fun f => s.ownerOf f == some p

/-! ## Reasons and classes (R6, R7) -/

/-- The higher of two classes. -/
def Class.max (a b : Class) : Class := if a.code < b.code then b else a

/-- The highest of the classes that the reasons imply (R7). -/
def Reasons.cls (r : Reasons) : Class :=
  ((if r.turbidity then Class.urgent else .routine).max (if r.headloss then .prompt else .routine)).max
    (r.station.getD .routine)

/-- The reasons of both sets; STATION under the higher of two station classes (R12). -/
def Reasons.join (a b : Reasons) : Reasons where
  headloss := a.headloss || b.headloss
  turbidity := a.turbidity || b.turbidity
  runtime := a.runtime || b.runtime
  station :=
    match a.station, b.station with
    | some x, some y => some (x.max y)
    | some x, none => some x
    | none, y => y

def Reasons.clear : Reasons := ⟨false, false, false, none⟩

/-- Whether a set of reasons has a member. -/
def Reasons.isNonempty (r : Reasons) : Bool := r.headloss || r.turbidity || r.runtime || r.station.isSome

/-- The reason RUNTIME alone (R10). -/
def Reasons.ofRuntime : Reasons := { Reasons.clear with runtime := true }

/-- The reason STATION alone, at a station class (R12). -/
def Reasons.ofStation (c : Class) : Reasons := { Reasons.clear with station := some c }

/-! ## Changes of one record -/

/-- The record of a present filter is changed by `g`. -/
def State.mapFilter (s : State) (f : FilterNo) (g : Filter → Filter) : State :=
  s.setFilter f ((s.filter f).map g)

/-- The record takes a service state with the optional fields it carries (R11). -/
def State.setService (s : State) (f : FilterNo) (v : Service) : State := s.mapFilter f fun r => { r with service := v }

/-- Reasons are added to an IN_SERVICE filter (R8) or a DUE one (R9); in every other state nothing happens. -/
def State.addReasons (s : State) (f : FilterNo) (new : Reasons) : State :=
  match (s.filter f).map Filter.service with
  | some (.inService start) =>
      if new.isNonempty then (s.setService f (.due ⟨new, new.cls, s.clock⟩ start)).enqueue f else s
  | some (.due d start) =>
      let all := d.reasons.join new
      if d.cls.code < all.cls.code then
        ((s.dequeue f).setService f (.due ⟨all, all.cls, s.clock⟩ start)).enqueue f
      else s.setService f (.due { d with reasons := all } start)
  | _ => s

/-- The clock has reached the run-time limit of the active bank from a service start (R10, R172). -/
def State.runTimeOver (s : State) (start : Int) : Bool :=
  ((s.activeBank.runTimeLimit * 3600 : Nat) : Int) ≤ (s.clock : Int) - start

/-- The run-time expiry of a filter is due: IN_SERVICE, or DUE without RUNTIME, with its limit reached (R10). -/
def State.runTimeDue (s : State) (f : FilterNo) : Bool :=
  match (s.filter f).map Filter.service with
  | some (.inService start) => s.runTimeOver start
  | some (.due d start) => !d.reasons.runtime && s.runTimeOver start
  | _ => false

/-- The run-time expiry, taken when it is due; also where it follows "at once" (R10, log 4). -/
def State.expireRunTime (s : State) (f : FilterNo) : State :=
  if s.runTimeDue f then s.addReasons f Reasons.ofRuntime else s

/-- The ripening expiry of a filter is due (R16). -/
def State.ripeningDue (s : State) (f : FilterNo) : Bool :=
  match (s.filter f).map Filter.service with
  | some (.ripening start) => s.reached start s.activeBank.ripeningLimit
  | _ => false

/-- A notice to the owner port of a present filter. -/
def State.postOwner (s : State) (f : FilterNo) (n : Notice) : State :=
  match s.ownerOf f with
  | some p => s.postTo p n
  | none => s

/-- The ripening expiry, taken when it is due (R16). -/
def State.expireRipening (s : State) (f : FilterNo) : State :=
  if s.ripeningDue f then (s.setService f (.heldOut .ripenTimeout)).postOwner f (.filterHeld f) else s

/-- A CALLED or WASHING filter returns to DUE under a queue time (`none`: its original one), its entry is re-inserted
(R29, R30), and a run-time expiry already reached follows at once (R10). -/
def State.returnToDue (s : State) (f : FilterNo) (time : Option Nat) : State :=
  match (s.filter f).map Filter.service with
  | some (.called d start) =>
      ((s.setService f (.due { d with queueTime := time.getD d.queueTime } start)).enqueue f).expireRunTime f
  | some (.washing d start) =>
      ((s.setService f (.due { d with queueTime := time.getD d.queueTime } start)).enqueue f).expireRunTime f
  | _ => s

end Sys2Proof.Machine
end

