-- ==== Sys2Proof/Machine/Wash.lean ====
section
/-! DEFINITION. The Wash Unit: steps, holds, aborts, completion, RUNON and the header gap (spec/04; spec/05 sections 5.4 and 5.5). -/

namespace Sys2Proof.Machine

def State.withHeader (s : State) (h : Header) : State := { s with header := h }

/-- A step of the snapshot, numbered from 1. -/
def Wash.stepAt (w : Wash) (n : Nat) : Option Step := w.snapshot[n - 1]?

/-- Both feedback lines are deasserted, by their qualified levels (R107). -/
def State.feedbackClear (s : State) : Bool := !s.asserted .pumpRun && !s.asserted .blowerRun

/-! ## SETTLING, RUNON and the way out of ABORTING (R85, R86, R106, R107) -/

/-- The header enters SETTLING and the gap timer starts (R86). -/
def State.enterSettling (s : State) : State := s.withHeader (.settling s.clock false)

/-- The header enters RUNON; it leaves it in the same event where both feedback lines are deasserted already (R107). -/
def State.enterRunon (s : State) : State :=
  let t := (s.withHeader .runon).postAttached (.headerFault .runon)
  if t.feedbackClear then t.enterSettling else t

/-- A header in ABORTING goes to RUNON when a pair is OVERRUN, to SETTLING when no stop window runs (R83, R85, R106). That the
feedback level of a RESTING pair does not hold it there is the model's choice between R106 and R105 (log 29). -/
def State.leaveAborting (s : State) : State :=
  match s.header with
  | .aborting _ _ _ =>
      if s.anyOverrun then s.enterRunon else if s.anyStopping then s else s.enterSettling
  | _ => s

/-- The gap expiry is due: the clock has reached the header gap of the active bank (R86). -/
def State.gapDue (s : State) : Bool :=
  match s.header with
  | .settling since taken => !taken && s.reached since s.activeBank.headerGap
  | _ => false

/-- The gap expiry, taken when it is due: IDLE, or SETTLING until the last stop window ends (R86); the feedback level of a RESTING
pair does not hold it there (log 29). -/
def State.expireGap (s : State) : State :=
  match s.header with
  | .settling since _ =>
      if s.gapDue then (if s.anyStopping then s.withHeader (.settling since true) else s.withHeader .idle) else s
  | _ => s

/-- A stop window has ended by its feedback deasserting: what it lets the header leave (R85, R86, R107, R108). ABORTING and SETTLING
wait on the stop windows alone, RUNON on both feedback levels (log 29). -/
def State.windowEnded (s : State) : State :=
  match s.header with
  | .aborting _ _ _ => s.leaveAborting
  | .settling _ taken => if taken && !s.anyStopping then s.withHeader .idle else s
  | .runon => if s.feedbackClear then s.enterSettling else s
  | _ => s

/-! ## The end of a wash (R82 to R84, R87) -/

/-- The record of a wash that ends now (R87); the history gives it the next sequence number (R139). -/
def State.historyRecord (s : State) (w : Wash) (r : Option Run) (outcome : WashOutcome) (cause : Option AbortCause) :
    HistoryRecord where
  seq := s.nextSeq
  filter := w.filter
  owner := w.owner
  bank := w.bank
  letter := w.letter
  selectionTime := w.selectionTime
  isolationTime := r.map Run.isolationTime
  endTime := s.clock
  stepsCompleted := w.stepsCompleted
  outcome := outcome
  cause := cause
  volumeAdded := w.volumeAdded
  pumpDelay := w.pumpDelay
  blowerDelay := w.blowerDelay

/-- A record placed last; with sixteen held the oldest goes first (R139). -/
def pushRecord (history : List HistoryRecord) (x : HistoryRecord) : List HistoryRecord :=
  history.drop (history.length + 1 - historyLimit) ++ [x]

def State.appendHistory (s : State) (x : HistoryRecord) : State :=
  { s with history := pushRecord s.history x, nextSeq := next16 s.nextSeq }

/-- The outcome that the water-reached flag decides (R84). -/
def Wash.abortOutcome (w : Wash) : WashOutcome :=
  if w.waterReached then .abortedAfterWater else .abortedBeforeWater

/-- The filter takes its outcome at abort entry (R84). -/
def State.abortFilter (s : State) (w : Wash) : State :=
  let t := s.mapFilter w.filter fun x => { x with lastWash := some ⟨s.clock, w.abortOutcome⟩ }
  if w.waterReached then t.setService w.filter (.heldOut .washIncomplete) else t.returnToDue w.filter none

/-- The causes that post HEADER_FAULT to the owner at abort entry (R83). -/
def AbortCause.isFault : AbortCause → Bool
  | .headerTrip | .feedbackFault | .tripHoldLimit => true
  | .abandoned | .gateTimeout | .stationLost | .supplyTrip | .basinTrip => false

/-- HEADER_FAULT to the owner, for the causes that post it (R83). -/
def State.postFault (s : State) (p : PortNo) (cause : AbortCause) : State :=
  if cause.isFault then s.postTo p (.headerFault (.cause cause)) else s

/-- Abort entry for a wash and its run, its inflow already charged (R83, R84, R87). -/
def State.abortWash (s : State) (w : Wash) (r : Option Run) (cause : AbortCause) : State :=
  let t := (s.setOutputs Lines.allOff (s.feedbackWindow w)).withHeader (.aborting w r cause)
  let u := (t.abortFilter w).appendHistory (t.historyRecord w r w.abortOutcome (some cause))
  ((u.postTo w.owner (.washEnd w.filter w.abortOutcome)).postFault w.owner cause).leaveAborting

/-- A wash in CALLING, GATED, STEPPING or HOLDING aborts; in every other header state nothing happens (R83, R85). -/
def State.abort (s : State) (cause : AbortCause) : State :=
  match s.chargeAccrual.header.live with
  | some (w, r) => s.chargeAccrual.abortWash w r cause
  | none => s

/-- The filter of a completed wash (R82). -/
def State.completeFilter (s : State) (f : FilterNo) : State :=
  s.mapFilter f fun x =>
    { x with service := .ripening s.clock, washes := next16 x.washes, lastWash := some ⟨s.clock, .complete⟩ }

/-- Completion of a wash whose inflow is charged already; its last step is counted here (R75, R82). -/
def State.completeWash (s : State) (wash : Wash) (r : Run) : State :=
  let w := { wash with stepsCompleted := wash.stepsCompleted + 1 }
  let t := (s.setOutputs Lines.allOff (s.feedbackWindow w)).completeFilter w.filter
  let u := t.appendHistory (t.historyRecord w (some r) .complete none)
  (u.postTo w.owner (.washEnd w.filter .complete)).enterSettling

/-- The wash in STEPPING completes at the end of its last step (R75, R82). -/
def State.complete (s : State) : State :=
  match s.chargeAccrual.header with
  | .stepping w r => s.chargeAccrual.completeWash w r
  | _ => s

/-! ## Steps (R70, R73, R77, R78) -/

/-- The step enters STEPPING at its elapsed time: its pattern is driven, water reached set by its pump mode (R73, R78). -/
def State.enterStepping (s : State) (w : Wash) (r : Run) (st : Step) : State :=
  (s.setOutputs (st.pattern r.elapsed) (s.feedbackWindow w)).withHeader
    (.stepping { w with waterReached := w.waterReached || st.pump != .off } r)

/-- The step enters HOLDING with elapsed kept (R77); a second that was due in STEPPING is not counted (R89). -/
def State.enterHolding (s : State) (w : Wash) (r : Run) : State :=
  (s.setOutputs Lines.allOff (s.feedbackWindow w)).withHeader (.holding w { r with secondDue := false } s.clock)

/-- A step begins: the trip inputs decide between STEPPING, HOLDING and an abort (R73). -/
def State.beginStep (s : State) (w : Wash) (r : Run) (st : Step) : State :=
  if s.asserted .headerTrip then (s.withHeader (.stepping w r)).abort .headerTrip
  else if s.asserted .supplyLow || s.asserted .basinHigh then
    match st.response with
    | .hold => s.enterHolding w r
    | .abort =>
        (s.withHeader (.stepping w r)).abort (if s.asserted .supplyLow then .supplyTrip else .basinTrip)
  else s.enterStepping w r st

/-- The header waits at a gate (R70). -/
def State.enterGate (s : State) (w : Wash) (r : Run) : State :=
  ((s.setOutputs Lines.allOff (s.feedbackWindow w)).withHeader (.gated w r s.clock)).postTo w.owner
    (.stepGate w.filter r.step)

/-- A step of the snapshot becomes due (R70). -/
def State.stepDue (s : State) (w : Wash) (isolationTime number : Nat) (st : Step) : State :=
  let r : Run := ⟨isolationTime, number, 0, false⟩
  if st.gate then s.enterGate w r else s.beginStep w r st

/-! ## Trips, feedback and faults as the Wash Unit takes them (R69, R76 to R78, R81, R102 to R109) -/

/-- SUPPLY_LOW or BASIN_HIGH asserts: it acts in STEPPING, by the step's trip response (R76). -/
def State.tripAsserted (s : State) (cause : AbortCause) : State :=
  match s.header with
  | .stepping w r =>
    match w.stepAt r.step with
    | some st =>
      match st.response with
      | .hold => s.enterHolding w r
      | .abort => s.abort cause
    | none => s
  | _ => s

/-- SUPPLY_LOW or BASIN_HIGH deasserts: with both deasserted a hold is released (R78). -/
def State.tripReleased (s : State) : State :=
  match s.header with
  | .holding w r _ =>
    if s.asserted .supplyLow || s.asserted .basinHigh then s
    else
      match w.stepAt r.step with
      | some st => s.enterStepping w r st
      | none => s
  | _ => s

/-- A feedback fault aborts a wash in GATED, STEPPING or HOLDING (R81). -/
def State.feedbackFault (s : State) : State := if s.header.washing.isSome then s.abort .feedbackFault else s

/-- A start delay captured in the transaction, where it holds none for the line (R102, R111). -/
def Wash.capture (w : Wash) (delay : Nat) : Pair → Wash
  | .pump => { w with pumpDelay := some (w.pumpDelay.getD delay) }
  | .blower => { w with blowerDelay := some (w.blowerDelay.getD delay) }

/-- The feedback of a pair asserts (R102). -/
def State.feedbackAsserted (s : State) (pair : Pair) : State :=
  match s.pair pair with
  | .starting w =>
      { (s.setPair .running pair) with header := s.header.mapWash fun x => x.capture (s.clock - w.start) pair }
  | .resting | .running | .stopping _ | .overrun => s

/-- The feedback of a pair deasserts (R104, R105, R107). -/
def State.feedbackDeasserted (s : State) (pair : Pair) : State :=
  match s.pair pair with
  | .running => s.feedbackFault
  | .stopping _ => (s.setPair .resting pair).windowEnded
  | .overrun => (s.setPair .resting pair).windowEnded
  | .resting => s.windowEnded
  | .starting _ => s

/-- A start window expires with the feedback deasserted (R102). -/
def State.startWindowDue (s : State) (pair : Pair) : Bool :=
  match s.pair pair with
  | .starting w => s.windowOver w && !s.asserted (feedbackOf pair)
  | .resting | .running | .stopping _ | .overrun => false

/-- A stop window expires with the feedback asserted (R104). -/
def State.stopWindowDue (s : State) (pair : Pair) : Bool :=
  match s.pair pair with
  | .stopping w => s.windowOver w && s.asserted (feedbackOf pair)
  | .resting | .starting _ | .running | .overrun => false

/-- The Wash Unit takes the report of an overrun by its header state (R104, R86). -/
def State.overrunReported (s : State) : State :=
  match s.header with
  | .gated _ _ _ | .stepping _ _ | .holding _ _ _ => s.abort .feedbackFault
  | .aborting _ _ _ | .settling _ _ => s.enterRunon
  | .offline | .idle | .calling _ | .runon => s

/-! ## The call (R66, R68) -/

/-- A call ends without a wash: the filter is DUE again and the header IDLE (R66 to R68). -/
def State.endCall (s : State) (w : Wash) (time : Option Nat) : State := (s.returnToDue w.filter time).withHeader .idle

end Sys2Proof.Machine
end

