-- ==== Sys2Proof/Machine/Ports.lean ====
section
/-! DEFINITION. Station ports: state changes and what follows them, good and discarded frames, request taking and replies
(spec/09). -/

namespace Sys2Proof.Machine

/-! ## Changes of port state (R154, R157) -/

def State.setPortState (s : State) (p : PortNo) (st : PortState) : State :=
  s.setPort p { s.port p with state := st }

/-- The policy lock is released if the port holds it (R127). -/
def State.dropLock (s : State) (p : PortNo) : State :=
  if s.lock.any fun l => l.holder == p then { s with lock := none } else s

/-- A hold of the port ends without notice, and its hold-request flag is cleared (R55, R57). -/
def State.dropHold (s : State) (p : PortNo) : State :=
  { s with
    hold := if s.hold.any fun h => h.port == p then none else s.hold
    holdFlags := s.holdFlags.set p false }

/-- The call of the port's filter ends (R68), or its wash aborts with STATION_LOST (R81). -/
def State.dropWash (s : State) (p : PortNo) : State :=
  match s.header with
  | .calling w => if w.owner = p then s.endCall w none else s
  | .gated w _ _ => if w.owner = p then s.abort .stationLost else s
  | .stepping w _ => if w.owner = p then s.abort .stationLost else s
  | .holding w _ _ => if w.owner = p then s.abort .stationLost else s
  | .aborting _ _ _ | .offline | .idle | .runon | .settling _ _ => s

/-- The leaving effects, in the order of the table of R157; the port's entries are ineligible by its new state. -/
def State.leavingEffects (s : State) (p : PortNo) : State := ((s.dropLock p).dropHold p).dropWash p

/-- A port takes a state outside ATTACHED and QUIET, with the leaving effects where it was in one of them (R157). -/
def State.leavePort (s : State) (p : PortNo) (st : PortState) : State :=
  let t := s.setPortState p st
  if (s.port p).state.isAttached then t.leavingEffects p else t

/-- Entry to LOST (R155, R158) or BLOCKED (R150), with PEER after the leaving effects (R154). -/
def State.losePort (s : State) (p : PortNo) (st : PortState) : State := (s.leavePort p st).postPeers p

/-- Entry to QUIET (R155). -/
def State.quietPort (s : State) (p : PortNo) : State := (s.setPortState p .quiet).postPeers p

/-! ## Frames (R148 to R150, R155) -/

/-- The receiver takes characters: after the image load, in every port state but BLOCKED (R147, R150). -/
def State.receives (s : State) (p : PortNo) : Bool := s.phase == .running && (s.port p).state != .blocked

def Receiver.isFraming : Receiver → Bool
  | .framing _ => true
  | .hunting | .resync => false

def State.setReceiver (s : State) (p : PortNo) (r : Receiver) : State := s.setPort p { s.port p with receiver := r }

/-- A frame that arrives whole is received: not in BLOCKED, and not in RESYNC, where its characters are skipped (R149). -/
def State.takesFrame (s : State) (p : PortNo) : Bool := s.receives p && (s.port p).receiver != .resync

/-- A good frame: bad count 0, the time of the last good frame, HUNTING; a QUIET port becomes ATTACHED (R148, R155). -/
def State.goodFrame (s : State) (p : PortNo) : State :=
  let t := s.setPort p { s.port p with badCount := 0, lastGood := s.clock, receiver := .hunting }
  if (s.port p).state = .quiet then (t.setPortState p .attached).postPeers p else t

/-- A frame in FRAMING is discarded: the count rises, and at 8 the port is BLOCKED (R149, R150). The receiver waits for
an idle line in either case (in BLOCKED it takes no character, log 20). -/
def State.discardFrame (s : State) (p : PortNo) : State :=
  if s.receives p && (s.port p).receiver.isFraming then
    let n := (s.port p).badCount + 1
    let t := s.setPort p { s.port p with badCount := n, receiver := .resync }
    if badLimit ≤ n then t.losePort p .blocked else t
  else s

/-! ## Replies (R151, R174) -/

/-- Four replies wait (R151). -/
def State.repliesFull (s : State) (p : PortNo) : Bool := replyLimit ≤ (s.port p).replies.length

/-- A reply joins the port's reply queue. -/
def State.reply (s : State) (p : PortNo) (r : Reply) : State :=
  s.setPort p { s.port p with replies := (s.port p).replies ++ [r] }

/-! ## Request taking (R152, R153) -/

/-- What an owning block makes of a request: a refusal, which changes nothing, or the state after it with the reply's data. -/
inductive Verdict
  | refuse (code : RefusalCode)
  | accept (after : State) (data : ReplyData)

/-- The state and the answer of a verdict. -/
def Verdict.settle (s : State) : Verdict → State × Answer
  | .refuse code => (s, .refused code)
  | .accept after data => (after, .accepted data)

/-- The kinds a port state takes (R153). -/
def PortState.takes (st : PortState) (kind : Nat) : Bool :=
  match st with
  | .attached => true
  | .quiet => true
  | .lost => kind == 1 || kind == 2
  | .detached => kind == 1
  | .blocked => false

/-- The refusals given at the port by kind, port state and form, in the order of steps 1 to 3 of R152. -/
def State.portRefusal (s : State) (p : PortNo) (kind : Nat) (form : Bool) : Option RefusalCode :=
  if !knownKind kind then some .badFormat
  else if !(s.port p).state.takes kind then some .notAttached
  else if !form then some .badFormat
  else none

/-- A request telegram arrives whole at a port: the good frame counts, a full reply queue discards the request (R151),
the port's own tests may refuse it (R152), else its owning block takes it; the answer joins the reply queue. -/
def State.request (s : State) (p : PortNo) (kind tag : Nat) (form : Bool) (act : State → State × Answer) : State :=
  if s.takesFrame p then
    let t := s.goodFrame p
    if t.repliesFull p then t
    else
      match t.portRefusal p kind form with
      | some code => t.reply p ⟨kind, tag, .refused code⟩
      | none => (act t).1.reply p ⟨kind, tag, (act t).2⟩
  else s

/-- A request whose owning block gives a verdict. -/
def State.handle (s : State) (p : PortNo) (kind tag : Nat) (form : Bool) (act : State → Verdict) : State :=
  s.request p kind tag form fun t => (act t).settle t

/-- Step 4 of R152: the filter named lies in 1 to 32, is present, and is owned by the sender. -/
def State.ownFilter (s : State) (p : PortNo) (n : Nat) (act : FilterNo → Filter → Verdict) : Verdict :=
  match filterOf n with
  | none => .refuse .badFilter
  | some f =>
    match s.filter f with
    | none => .refuse .badFilter
    | some r => if r.owner = p then act f r else .refuse .notOwner

/-- The lock test of R127: it comes first, and the holder's request renews the lock time whether or not it is then accepted. -/
def State.lockCovered (p : PortNo) (act : State → Verdict) (s : State) : State × Answer :=
  match s.lock with
  | none => (s, .refused .noLock)
  | some l =>
    if l.holder = p then
      let t := { s with lock := some { l with time := s.clock } }
      (act t).settle t
    else (s, .refused .locked)

end Sys2Proof.Machine
end

