-- ==== Sys2Proof/Machine/Policy.lean ====
section
/-! DEFINITION. The Policy Store: validity of a bank, the posture switch, the STORM line, new quiet and lost times
(spec/07; spec/09 R158). -/

namespace Sys2Proof.Machine

/-! ## Validity (R124) -/

/-- The recipe of a letter has a step and fits the basin. -/
def State.recipeFits (s : State) (b : BankId) (letter : Letter) : Bool :=
  !((s.bank b).recipe letter).isEmpty && plannedVolume ((s.bank b).recipe letter) ≤ s.plant.capacity

/-- A bank is valid against the present assignments and capacity. -/
def State.validBank (s : State) (b : BankId) : Bool :=
  (s.bank b).floor ≤ s.presentCount &&
    s.filters.cells.all fun r => r.all fun x => s.recipeFits b x.letter

/-- The active bank, valid before a change, would be invalid after it (R131, R132). -/
def State.breaksActive (s after : State) : Bool := s.validBank s.active && !after.validBank after.active

/-! ## The hold-limit expiry (R56, R58) -/

def State.holdDue (s : State) : Bool := s.hold.any fun h => s.reached h.start s.activeBank.holdLimit

/-- The hold-limit expiry, taken when it is due. -/
def State.expireHold (s : State) : State :=
  match s.hold with
  | some h => if s.holdDue then { s with hold := none }.postTo h.port (.tenure .holdExpired) else s
  | none => s

/-! ## The posture switch (R134 to R136) -/

/-- The take guard: a switch pending, the header free, the lock free (R135). -/
def State.switchDue (s : State) : Bool := s.switch.isSome && s.header.isFree && s.lock.isNone

/-- The run-time and ripening expiries already reached, in ascending filter number (R21, R136 step 2). -/
def State.expireFilters (s : State) : State :=
  allFilters.foldl (fun t f => (t.expireRunTime f).expireRipening f) s

/-- The budget is clipped to the run length of the active bank (R58). -/
def State.clipBudget (s : State) : State := { s with budget := min s.budget s.activeBank.runLength }

/-- A header in OFFLINE leaves it for IDLE (R136 step 6). -/
def State.leaveOffline (s : State) : State :=
  match s.header with
  | .offline => s.withHeader .idle
  | _ => s

/-- The switch to a valid target, in the order of R136. -/
def State.carrySwitch (s : State) (target : BankId) : State :=
  let t := { s with active := target, switch := none }
  (((((t.expireFilters).clipBudget).expireHold).expireGap).postAttached (.posture (.bank target))).leaveOffline

/-- The taking of a switch that is due: carried out, or rejected where the target is invalid (R135). -/
def State.takeSwitch (s : State) : State :=
  match s.switch with
  | some x =>
    if s.switchDue then
      if s.validBank x.target then s.carrySwitch x.target
      else { s with switch := none }.postAttached (.posture .rejected)
    else s
  | none => s

/-- The STORM line compares the bank it calls for with the active bank and the pending switch (R134). -/
def State.stormActs (s : State) : State :=
  let called := if s.asserted .storm then BankId.storm else .normal
  if called = s.active then { s with switch := none }
  else
    match s.switch with
    | some _ => s
    | none => { s with switch := some ⟨called, .line⟩ }

/-- A pending switch of origin LINE is cancelled when the enable is turned off (R134). -/
def State.cancelLineSwitch (s : State) : State :=
  if s.switch.any fun x => x.origin == .line then { s with switch := none } else s

/-! ## New quiet and lost times (R158) -/

/-- A port's silence (R155). -/
def State.silence (s : State) (p : PortNo) : Nat := s.clock - (s.port p).lastGood

/-- One port meets the new times. -/
def State.applyTimes (s : State) (p : PortNo) : State :=
  match (s.port p).state with
  | .attached =>
      if s.plant.lostTime ≤ s.silence p then s.losePort p .lost
      else if s.plant.quietTime ≤ s.silence p then s.quietPort p
      else s
  | .quiet => if s.plant.lostTime ≤ s.silence p then s.losePort p .lost else s
  | .detached | .lost | .blocked => s

/-- The ports in ascending number, each with its own effects (R158). -/
def State.applyTimesAll (s : State) : State := allPorts.foldl State.applyTimes s

end Sys2Proof.Machine
end

