-- ==== Sys2Proof/Machine/Inputs.lean ====
section
/-! DEFINITION. The eight input conditioners, and what each change of a qualified level brings about (spec/05 section 5.3). -/

namespace Sys2Proof.Machine

/-- A qualified level changes: what its readers make of it (R99, R115, R134). -/
def State.levelEffects (s : State) (i : Input) : State :=
  match i with
  | .headerTrip => if s.asserted .headerTrip then s.abort .headerTrip else s
  | .supplyLow => if s.asserted .supplyLow then s.tripAsserted .supplyTrip else s.tripReleased
  | .basinHigh =>
      if s.asserted .basinHigh then (s.setVolume s.plant.capacity).tripAsserted .basinTrip else s.tripReleased
  | .basinEmpty => if s.asserted .basinEmpty then s.setVolume 0 else s
  | .returnRun => s
  | .pumpRun => if s.asserted .pumpRun then s.feedbackAsserted .pump else s.feedbackDeasserted .pump
  | .blowerRun => if s.asserted .blowerRun then s.feedbackAsserted .blower else s.feedbackDeasserted .blower
  | .storm => if s.plant.stormEnable then s.stormActs else s

def State.setInput (s : State) (i : Input) (v : InputLine) : State := { s with inputs := s.inputs.set i v }

/-- The present raw run differs from the qualified level and has stood for the qualify time (R96, R98). -/
def State.qualifyDue (s : State) (i : Input) : Bool :=
  s.rawActive i != s.asserted i && s.plant.qualify.get i ≤ 10 * (s.inputs.get i).run

/-- The qualified level follows a raw run that has stood long enough, with all its effects (R96, R98, R99). -/
def State.qualify (s : State) (i : Input) : State :=
  if s.qualifyDue i then
    (s.setInput i { s.inputs.get i with asserted := !s.asserted i }).levelEffects i
  else s

end Sys2Proof.Machine
end

