-- ==== Sys2Proof/Machine/Selection.lean ====
section
/-! DEFINITION. The Selection Unit: the guard, the candidate, the constraints, the selection and tenure (spec/03), and what
follows an event at once. -/

namespace Sys2Proof.Machine

/-! ## Guard and candidate (R44 to R46) -/

/-- The selection guard: header IDLE, no switch pending, an eligible entry in the queue (R44). -/
def State.guardHolds (s : State) : Bool :=
  s.header.isIdle && s.switch.isNone && !s.eligibleEntries.isEmpty

/-- C, the class of the first eligible entry (spec/03 section 3.3). -/
def State.topClass (s : State) : Class := ((s.eligibleEntries.head?).map s.entryClass).getD .routine

/-- A hold breaks where a port other than its own has an eligible URGENT entry (R45). -/
def State.breakHold (s : State) : State :=
  match s.hold with
  | some h =>
      if s.rivalAt h.port .urgent then { s with hold := none }.postTo h.port (.tenure .holdBroken) else s
  | none => s

/-- The holder's first eligible entry of class C, where the holder has budget (R46). -/
def State.preferred (s : State) : Option FilterNo :=
  match s.holder with
  | some p =>
      if 0 < s.budget then
        s.eligibleEntries.find? fun f => s.ownerOf f == some p && s.entryClass f == s.topClass
      else none
  | none => none

/-- The candidate: under a hold its port's first eligible entry (R45), else the preferred one or the first (R46). -/
def State.candidate (s : State) : Option FilterNo :=
  match s.hold with
  | some h => s.eligibleEntries.find? fun f => s.ownerOf f == some h.port
  | none => s.preferred.or s.eligibleEntries.head?

/-! ## Constraints (R47 to R49) -/

def State.floorPasses (s : State) : Bool := s.activeBank.floor + 1 ≤ s.inServiceCount

def State.basinPasses (s : State) (r : Filter) : Bool := plannedVolume (s.activeBank.recipe r.letter) ≤ s.headroom

def State.tripsPass (s : State) : Bool :=
  !s.asserted .headerTrip && !s.asserted .supplyLow && !s.asserted .basinHigh

def State.passes (s : State) (r : Filter) : Bool := s.floorPasses && s.basinPasses r && s.tripsPass

/-! ## The selection (R50 to R53, R63) -/

/-- The candidate goes from DUE to CALLED and its entry is removed (R50). -/
def State.callFilter (s : State) (f : FilterNo) : State :=
  match (s.filter f).map Filter.service with
  | some (.due d start) => (s.setService f (.called d start)).dequeue f
  | _ => s

/-- Tenure passes to another port (R51), and its waiting hold request becomes a hold (R53). -/
def State.passTenure (s : State) (p : PortNo) : State :=
  let t := { s with holder := some p, budget := s.activeBank.runLength - 1 }.postTo p (.tenure .gained)
  let u :=
    match s.holder with
    | some old => t.postTo old (.tenure .lost)
    | none => t
  if s.holdFlags.get p then
    { u with hold := some ⟨p, s.clock⟩, holdFlags := u.holdFlags.set p false }.postTo p (.tenure .holdActive)
  else u

/-- The tenure state after a selection of port `p`'s filter; `rival`: some other port had an eligible entry of class C (R51, R52). -/
def State.updateTenure (s : State) (p : PortNo) (rival : Bool) : State :=
  if s.holder = some p then
    if s.hold.isNone && rival then { s with budget := s.budget - 1 } else s
  else s.passTenure p

/-- The transaction that a selection opens (R63). -/
def State.openWash (s : State) (f : FilterNo) (r : Filter) : Wash where
  filter := f
  owner := r.owner
  bank := s.active
  letter := r.letter
  snapshot := s.activeBank.recipe r.letter
  stepsCompleted := 0
  selectionTime := s.clock
  waterReached := false
  volumeAdded := 0
  pumpDelay := none
  blowerDelay := none

/-- A selection, in the order of R50. -/
def State.select (s : State) (f : FilterNo) (r : Filter) : State :=
  let t := (s.callFilter f).updateTenure r.owner (s.rivalAt r.owner s.topClass)
  (t.withHeader (.calling (s.openWash f r))).postTo r.owner (.call f)

/-- A candidate that passes every constraint is selected; otherwise nothing happens (R44, R49). -/
def State.trySelect (s : State) : State :=
  match s.candidate with
  | some f =>
    match s.filter f with
    | some r => if s.passes r then s.select f r else s
    | none => s
  | none => s

/-- A selection evaluation, where the guard holds (R44). -/
def State.evaluate (s : State) : State := if s.guardHolds then s.breakHold.trySelect else s

/-! ## What follows at once (R135, R86, R44; log 3) -/

/-- A header gap of 0 is reached at once after the entry to SETTLING (R86). -/
def State.expireZeroGap (s : State) : State := if s.activeBank.headerGap = 0 then s.expireGap else s

/-- Before any further event: a switch that is due is taken (R135), a gap of 0 has expired, and the selection guard
has been evaluated. -/
def State.atOnce (s : State) : State := s.takeSwitch.expireZeroGap.evaluate

/-- An event of the running part. Until the image load completes no block takes an event (R165, log 10). -/
def State.event (s : State) (e : State → State) : State :=
  match s.phase with
  | .loading _ => s
  | .running => e s.atOnce

end Sys2Proof.Machine
end

