-- ==== Sys2Proof/Machine/Expiries.lean ====
section
/-! DEFINITION. The part's own events: expiries, marks and step ends, selection, the accrual, the take of a switch; and the
plant's input events. An event whose condition does not hold is not taken (log 2). -/

namespace Sys2Proof.Machine

/-! ## Ports and lock (R155, R127) -/

def State.quietDue (s : State) (p : PortNo) : Bool :=
  (s.port p).state == .attached && s.plant.quietTime ≤ s.silence p

def evQuietExpiry (p : PortNo) (s : State) : State := if s.quietDue p then s.quietPort p else s

/-- QUIET_EXPIRY (R155). -/
def execQuietExpiry (p : PortNo) (s : State) : Host.Outcome State Fault Refusal := .next (s.event (evQuietExpiry p))

def State.lostDue (s : State) (p : PortNo) : Bool := (s.port p).state == .quiet && s.plant.lostTime ≤ s.silence p

def evLostExpiry (p : PortNo) (s : State) : State := if s.lostDue p then s.losePort p .lost else s

/-- LOST_EXPIRY (R155). -/
def execLostExpiry (p : PortNo) (s : State) : Host.Outcome State Fault Refusal := .next (s.event (evLostExpiry p))

def State.lockDue (s : State) : Bool := s.lock.any fun l => s.reached l.time lockLimit

def evLockExpiry (s : State) : State := if s.lockDue then { s with lock := none } else s

/-- LOCK_EXPIRY (R127). -/
def execLockExpiry (s : State) : Host.Outcome State Fault Refusal := .next (s.event evLockExpiry)

/-! ## Filters (R10, R16) -/

def evRunTimeExpiry (f : FilterNo) (s : State) : State := s.expireRunTime f

/-- RUN_TIME_EXPIRY (R10). -/
def execRunTimeExpiry (f : FilterNo) (s : State) : Host.Outcome State Fault Refusal :=
  .next (s.event (evRunTimeExpiry f))

def evRipeningExpiry (f : FilterNo) (s : State) : State := s.expireRipening f

/-- RIPENING_EXPIRY (R16). -/
def execRipeningExpiry (f : FilterNo) (s : State) : Host.Outcome State Fault Refusal :=
  .next (s.event (evRipeningExpiry f))

/-! ## Selection and posture (R44, R50, R56, R136) -/

/-- The evaluation is the last of what follows at once, so the event adds nothing to it (log 3). -/
def evSelection (s : State) : State := s

/-- SELECTION (R50). -/
def execSelection (s : State) : Host.Outcome State Fault Refusal := .next (s.event evSelection)

def evHoldLimitExpiry (s : State) : State := s.expireHold

/-- HOLD_LIMIT_EXPIRY (R56). -/
def execHoldLimitExpiry (s : State) : Host.Outcome State Fault Refusal := .next (s.event evHoldLimitExpiry)

/-- SWITCH_TAKE (R135, R136): the take itself, before anything else that follows at once (log 3). -/
def execSwitchTake (s : State) : Host.Outcome State Fault Refusal := .next s.takeSwitch

/-! ## The Wash Unit's timers (R67, R72, R74, R75, R79, R86) -/

def State.callDue (s : State) : Bool :=
  match s.header with
  | .calling w => s.reached w.selectionTime (s.bank w.bank).callWindow
  | _ => false

/-- The lapse count rises; at 3 the filter is held out, below it returns to DUE (R67, R19). -/
def State.lapse (s : State) (w : Wash) : State :=
  let t := s.mapFilter w.filter fun r => { r with lapses := r.lapses + 1 }
  match t.filter w.filter with
  | some r =>
      if lapseLimit ≤ r.lapses then
        ((t.setService w.filter (.heldOut .callLapse)).withHeader .idle).postTo w.owner (.filterHeld w.filter)
      else t.endCall w none
  | none => t

def evCallWindowExpiry (s : State) : State :=
  match s.header with
  | .calling w => if s.callDue then s.lapse w else s
  | _ => s

/-- CALL_WINDOW_EXPIRY (R67). -/
def execCallWindowExpiry (s : State) : Host.Outcome State Fault Refusal := .next (s.event evCallWindowExpiry)

def State.gateDue (s : State) : Bool :=
  match s.header with
  | .gated w _ since => s.reached since (s.bank w.bank).gateWindow
  | _ => false

def evGateExpiry (s : State) : State := if s.gateDue then s.abort .gateTimeout else s

/-- GATE_EXPIRY (R72). -/
def execGateExpiry (s : State) : Host.Outcome State Fault Refusal := .next (s.event evGateExpiry)

/-- A second has passed that brings elapsed to the step's mark, short of its end (R74). -/
def State.markDue (s : State) : Bool :=
  match s.header with
  | .stepping w r =>
    match w.stepAt r.step with
    | some st => r.secondDue && r.elapsed + 1 == st.mark && st.mark < st.duration
    | none => false
  | _ => false

/-- Elapsed takes the second, and the lines in a mark mode take their after-mark drive (R74). -/
def evMarkReached (s : State) : State :=
  match s.header with
  | .stepping w r =>
    match w.stepAt r.step with
    | some st =>
        if s.markDue then
          (s.setOutputs (st.pattern (r.elapsed + 1)) (s.feedbackWindow w)).withHeader
            (.stepping w { r with elapsed := r.elapsed + 1, secondDue := false })
        else s
    | none => s
  | _ => s

/-- MARK_REACHED (R74). -/
def execMarkReached (s : State) : Host.Outcome State Fault Refusal := .next (s.event evMarkReached)

/-- A second has passed that brings elapsed to the step's duration (R75). -/
def State.stepEndDue (s : State) : Bool :=
  match s.header with
  | .stepping w r =>
    match w.stepAt r.step with
    | some st => r.secondDue && st.duration ≤ r.elapsed + 1
    | none => false
  | _ => false

/-- The step is counted; the next one becomes due, or the wash completes (R75). -/
def evStepEnd (s : State) : State :=
  match s.header with
  | .stepping w r =>
      if s.stepEndDue then
        match w.stepAt (r.step + 1) with
        | some next =>
            s.stepDue { w with stepsCompleted := w.stepsCompleted + 1 } r.isolationTime (r.step + 1) next
        | none => s.complete
      else s
  | _ => s

/-- STEP_END (R75). -/
def execStepEnd (s : State) : Host.Outcome State Fault Refusal := .next (s.event evStepEnd)

def State.tripHoldDue (s : State) : Bool :=
  match s.header with
  | .holding w _ since => s.reached since (s.bank w.bank).tripHoldLimit
  | _ => false

def evTripHoldLimitExpiry (s : State) : State := if s.tripHoldDue then s.abort .tripHoldLimit else s

/-- TRIP_HOLD_LIMIT_EXPIRY (R79). -/
def execTripHoldLimitExpiry (s : State) : Host.Outcome State Fault Refusal := .next (s.event evTripHoldLimitExpiry)

/-- GAP_EXPIRY (R86): after a switch that is due (R135), and before the selection that may follow at once (log 3). -/
def execGapExpiry (s : State) : Host.Outcome State Fault Refusal := .next s.takeSwitch.expireGap

/-! ## Supervision windows (R102, R104) -/

def evStartWindowExpiry (pair : Pair) (s : State) : State := if s.startWindowDue pair then s.feedbackFault else s

/-- START_WINDOW_EXPIRY (R102). -/
def execStartWindowExpiry (pair : Pair) (s : State) : Host.Outcome State Fault Refusal :=
  .next (s.event (evStartWindowExpiry pair))

def evStopWindowExpiry (pair : Pair) (s : State) : State :=
  if s.stopWindowDue pair then (s.setPair .overrun pair).overrunReported else s

/-- STOP_WINDOW_EXPIRY (R104). -/
def execStopWindowExpiry (pair : Pair) (s : State) : Host.Outcome State Fault Refusal :=
  .next (s.event (evStopWindowExpiry pair))

/-! ## Basin (R113) -/

def evBasinAccrual (s : State) : State := s.takeAccrual

/-- BASIN_ACCRUAL (R113). -/
def execBasinAccrual (s : State) : Host.Outcome State Fault Refusal := .next (s.event evBasinAccrual)

/-! ## Inputs (R96) -/

/-- The raw level of an input moves, and its measure starts afresh. -/
def State.moveRaw (s : State) (i : Input) (high : Bool) : State :=
  s.setInput i { s.inputs.get i with high := high, run := 0 }

/-- A level that the input already has is no change (log 2). -/
def State.changesRaw (s : State) (i : Input) (high : Bool) : Bool := (s.inputs.get i).high != high

/-- A qualify time of 0 follows the raw level in the event of the change (R96). -/
def evInputRawChange (i : Input) (high : Bool) (s : State) : State :=
  if s.changesRaw i high then (s.moveRaw i high).qualify i else s

/-- INPUT_RAW_CHANGE (R96). Before the load completes the raw level moves and nothing is measured (R97). -/
def execInputRawChange (i : Input) (high : Bool) (s : State) : Host.Outcome State Fault Refusal :=
  .next (match s.phase with
    | .loading _ => if s.changesRaw i high then s.moveRaw i high else s
    | .running => s.event (evInputRawChange i high))

def evInputQualifyExpiry (i : Input) (s : State) : State := s.qualify i

/-- INPUT_QUALIFY_EXPIRY (R96). -/
def execInputQualifyExpiry (i : Input) (s : State) : Host.Outcome State Fault Refusal :=
  .next (s.event (evInputQualifyExpiry i))

end Sys2Proof.Machine
end

