-- ==== Sys2Proof/Machine/FilterRequests.lean ====
section
/-! DEFINITION. The requests of the Filter Table: CONDITION, WASH_REQUEST, WITHDRAW, HOLD_OUT, RELEASE, RETURN (spec/01) and
RECONCILE (spec/11 section 11.5). -/

namespace Sys2Proof.Machine

/-! ## CONDITION (R5, R6, R152 step 5) -/

/-- The port's tests of one entry, in their order. -/
def State.entryRefusal (s : State) (p : PortNo) (e : ConditionEntry) : Option RefusalCode :=
  match (filterOf e.filter).bind s.filter with
  | none => some .badFilter
  | some r =>
    if r.owner ≠ p then some .notOwner
    else if 4000 < e.headLoss ∨ 50000 < e.turbidity then some .range
    else none

/-- The reasons that an entry's figures give under the active bank (R6). -/
def State.triggers (s : State) (e : ConditionEntry) : Reasons :=
  { Reasons.clear with
    turbidity := s.activeBank.turbidityLimit ≤ e.turbidity
    headloss := s.activeBank.headLossLimit ≤ e.headLoss }

/-- An entry is taken: its figures are stored, and an IN_SERVICE or DUE filter is tested (R5). -/
def State.takeEntry (s : State) (e : ConditionEntry) : State :=
  match filterOf e.filter with
  | some f =>
      (s.mapFilter f fun r => { r with figures := some ⟨e.headLoss, e.turbidity, s.clock⟩ }).addReasons f (s.triggers e)
  | none => s

def evCondition (p : PortNo) (tag : Nat) (entries : List ConditionEntry) (s : State) : State :=
  s.handle p 5 tag (1 ≤ entries.length && entries.length ≤ 8) fun t =>
    match entries.findSome? (t.entryRefusal p) with
    | some code => .refuse code
    | none => .accept (entries.foldl State.takeEntry t) .none

/-- CONDITION (R5). -/
def execCondition (p : PortNo) (tag : Nat) (entries : List ConditionEntry) (s : State) :
    Host.Outcome State Fault Refusal :=
  .next (s.event (evCondition p tag entries))

/-! ## WASH_REQUEST (R12) -/

def State.washRequest (s : State) (f : FilterNo) (r : Filter) (cls : Nat) : Verdict :=
  match r.service with
  | .inService _ | .due _ _ =>
    match classOf cls with
    | some c => .accept (s.addReasons f (Reasons.ofStation c)) .none
    | none => .refuse .range
  | .unknown | .called _ _ | .washing _ _ | .ripening _ | .heldOut _ => .refuse .wrongState

def evWashRequest (p : PortNo) (tag filter cls : Nat) (s : State) : State :=
  s.handle p 6 tag true fun t => t.ownFilter p filter fun f r => t.washRequest f r cls

/-- WASH_REQUEST (R12). -/
def execWashRequest (p : PortNo) (tag filter cls : Nat) (s : State) : Host.Outcome State Fault Refusal :=
  .next (s.event (evWashRequest p tag filter cls))

/-! ## WITHDRAW (R13) -/

def State.withdraw (s : State) (f : FilterNo) (r : Filter) : Verdict :=
  match r.service with
  | .due _ start => .accept (((s.setService f (.inService start)).dequeue f).expireRunTime f) .none
  | .unknown | .inService _ | .called _ _ | .washing _ _ | .ripening _ | .heldOut _ => .refuse .wrongState

def evWithdraw (p : PortNo) (tag filter : Nat) (s : State) : State :=
  s.handle p 7 tag true fun t => t.ownFilter p filter t.withdraw

/-- WITHDRAW (R13). -/
def execWithdraw (p : PortNo) (tag filter : Nat) (s : State) : Host.Outcome State Fault Refusal :=
  .next (s.event (evWithdraw p tag filter))

/-! ## HOLD_OUT (R14) -/

/-- The floor test of an unforced HOLD_OUT passes: the in-service count less one is not below the floor. -/
def State.floorAllows (s : State) : Bool := s.activeBank.floor + 1 ≤ s.inServiceCount

def State.holdOut (s : State) (f : FilterNo) (r : Filter) (forced : Bool) : Verdict :=
  let out := (s.setService f (.heldOut (if forced then .stationForced else .station))).dequeue f
  match r.service with
  | .inService _ | .due _ _ => if forced || s.floorAllows then .accept out .none else .refuse .floor
  | .unknown | .ripening _ => .accept out .none
  | .called _ _ | .washing _ _ | .heldOut _ => .refuse .wrongState

def evHoldOut (p : PortNo) (tag filter forced : Nat) (s : State) : State :=
  s.handle p 13 tag true fun t => t.ownFilter p filter fun f r => t.holdOut f r (flagOf forced)

/-- HOLD_OUT (R14). -/
def execHoldOut (p : PortNo) (tag filter forced : Nat) (s : State) : Host.Outcome State Fault Refusal :=
  .next (s.event (evHoldOut p tag filter forced))

/-! ## RELEASE (R15) and RETURN (R17) -/

/-- A filter enters IN_SERVICE from now, its lapses cleared (R15, R17). -/
def State.enterService (s : State) (f : FilterNo) : State :=
  s.mapFilter f fun r => { r with service := .inService s.clock, lapses := 0 }

def State.release (s : State) (f : FilterNo) (r : Filter) : Verdict :=
  match r.service with
  | .heldOut _ => .accept (s.enterService f) .none
  | .unknown | .inService _ | .due _ _ | .called _ _ | .washing _ _ | .ripening _ => .refuse .wrongState

def evRelease (p : PortNo) (tag filter : Nat) (s : State) : State :=
  s.handle p 14 tag true fun t => t.ownFilter p filter t.release

/-- RELEASE (R15). -/
def execRelease (p : PortNo) (tag filter : Nat) (s : State) : Host.Outcome State Fault Refusal :=
  .next (s.event (evRelease p tag filter))

/-- A clear turbidity figure stands since the ripening start (R17). -/
def State.isRipe (s : State) (r : Filter) (start : Nat) : Bool :=
  r.figures.any fun x => start ≤ x.time && x.turbidity < s.activeBank.returnLimit

def State.returnFilter (s : State) (f : FilterNo) (r : Filter) : Verdict :=
  match r.service with
  | .ripening start => if s.isRipe r start then .accept (s.enterService f) .none else .refuse .notRipe
  | .unknown | .inService _ | .due _ _ | .called _ _ | .washing _ _ | .heldOut _ => .refuse .wrongState

def evReturnFilter (p : PortNo) (tag filter : Nat) (s : State) : State :=
  s.handle p 12 tag true fun t => t.ownFilter p filter t.returnFilter

/-- RETURN (R17). -/
def execReturnFilter (p : PortNo) (tag filter : Nat) (s : State) : Host.Outcome State Fault Refusal :=
  .next (s.event (evReturnFilter p tag filter))

/-! ## RECONCILE (R171, R172) -/

/-- The service start that declared hours give, on the signed scale of R172. -/
def State.declaredStart (s : State) (hours : Nat) : Int := (s.clock : Int) - (hours * 3600 : Nat)

/-- The effects of an accepted RECONCILE, with the run-time expiry that may follow at once (R171). -/
def State.applyDeclared (s : State) (f : FilterNo) (hours : Nat) : Declared → State
  | .inService => (s.setService f (.inService (s.declaredStart hours))).expireRunTime f
  | .heldOut => s.setService f (.heldOut .station)
  | .needsWash =>
      ((s.setService f (.due ⟨Reasons.ofStation .prompt, .prompt, s.clock⟩ (s.declaredStart hours))).enqueue f).expireRunTime f

def State.reconcile (s : State) (f : FilterNo) (r : Filter) (declared hours : Nat) : Verdict :=
  match r.service with
  | .unknown =>
    match declaredOf declared with
    | some d => if hours ≤ 240 then .accept (s.applyDeclared f hours d) .none else .refuse .range
    | none => .refuse .range
  | .inService _ | .due _ _ | .called _ _ | .washing _ _ | .ripening _ | .heldOut _ => .refuse .wrongState

def evReconcile (p : PortNo) (tag filter declared hours : Nat) (s : State) : State :=
  s.handle p 15 tag true fun t => t.ownFilter p filter fun f r => t.reconcile f r declared hours

/-- RECONCILE (R171). -/
def execReconcile (p : PortNo) (tag filter declared hours : Nat) (s : State) : Host.Outcome State Fault Refusal :=
  .next (s.event (evReconcile p tag filter declared hours))

end Sys2Proof.Machine
end

