-- ==== Sys2Proof/Machine/HeaderRequests.lean ====
section
/-! DEFINITION. HOLD_HEADER and RELEASE_HOLD (spec/03 section 3.6), BASIN_DECLARE (spec/06 section 6.3). -/

namespace Sys2Proof.Machine

/-! ## HOLD_HEADER (R54) -/

/-- The table of R54 by the sender's standing. -/
def State.holdHeader (s : State) (p : PortNo) : Verdict :=
  if s.holder = some p then
    match s.hold with
    | some _ => .accept s (.standing true)
    | none => .accept { s with hold := some ⟨p, s.clock⟩ } (.standing true)
  else .accept { s with holdFlags := s.holdFlags.set p true } (.standing false)

def evHoldHeader (p : PortNo) (tag : Nat) (s : State) : State := s.handle p 16 tag true fun t => t.holdHeader p

/-- HOLD_HEADER (R54). -/
def execHoldHeader (p : PortNo) (tag : Nat) (s : State) : Host.Outcome State Fault Refusal :=
  .next (s.event (evHoldHeader p tag))

/-! ## RELEASE_HOLD (R55) -/

def evReleaseHold (p : PortNo) (tag : Nat) (s : State) : State :=
  s.handle p 17 tag true fun t => .accept (t.dropHold p) .none

/-- RELEASE_HOLD (R55). -/
def execReleaseHold (p : PortNo) (tag : Nat) (s : State) : Host.Outcome State Fault Refusal :=
  .next (s.event (evReleaseHold p tag))

/-! ## BASIN_DECLARE (R116) -/

def State.declareBasin (s : State) (litres : Nat) : Verdict :=
  if s.plant.capacity < litres then .refuse .range
  else if s.header.isFree then .accept (s.setVolume litres) .none
  else .refuse .wrongState

def evBasinDeclare (p : PortNo) (tag litres : Nat) (s : State) : State :=
  s.handle p 18 tag true fun t => t.declareBasin litres

/-- BASIN_DECLARE (R116). -/
def execBasinDeclare (p : PortNo) (tag litres : Nat) (s : State) : Host.Outcome State Fault Refusal :=
  .next (s.event (evBasinDeclare p tag litres))

end Sys2Proof.Machine
end

