-- ==== Sys2Proof/Machine/PolicyRequests.lean ====
section
/-! DEFINITION. The requests of the Policy Store: the lock, writes of the standby bank, ASSIGN, PLANT_WRITE, POSTURE_SWITCH
(spec/07) and STORE (spec/11 section 11.4). -/

namespace Sys2Proof.Machine

/-! ## The lock (R126, R127) -/

def State.takeLock (s : State) (p : PortNo) : Verdict :=
  match s.lock with
  | none => .accept { s with lock := some ⟨p, s.clock⟩ } .none
  | some l => if l.holder = p then .accept { s with lock := some ⟨p, s.clock⟩ } .none else .refuse .locked

def evPolicyLock (p : PortNo) (tag : Nat) (s : State) : State := s.handle p 19 tag true fun t => t.takeLock p

/-- POLICY_LOCK (R126). -/
def execPolicyLock (p : PortNo) (tag : Nat) (s : State) : Host.Outcome State Fault Refusal :=
  .next (s.event (evPolicyLock p tag))

def State.unlock (s : State) (p : PortNo) : Verdict :=
  if s.lock.any fun l => l.holder == p then .accept { s with lock := none } .none else .refuse .noLock

def evPolicyUnlock (p : PortNo) (tag : Nat) (s : State) : State := s.handle p 20 tag true fun t => t.unlock p

/-- POLICY_UNLOCK (R127). -/
def execPolicyUnlock (p : PortNo) (tag : Nat) (s : State) : Host.Outcome State Fault Refusal :=
  .next (s.event (evPolicyUnlock p tag))

/-! ## Writes of the standby bank (R128 to R130) -/

/-- The bank tests of R128, in their order; they pass on the standby bank. -/
def State.standbyBank (s : State) (bank : Nat) (act : BankId → Verdict) : Verdict :=
  match bankOf bank with
  | none => .refuse .range
  | some b => if b = s.active then .refuse .activeBank else if s.switch.isSome then .refuse .switchPending else act b

def State.writeItem (s : State) (item value : Nat) (b : BankId) : Verdict :=
  match itemOf item with
  | some i => if i.accepts value then .accept (s.setBank ((s.bank b).setItem value i) b) .none else .refuse .range
  | none => .refuse .range

def evPolicyWrite (p : PortNo) (tag bank item value : Nat) (s : State) : State :=
  s.request p 21 tag true (State.lockCovered p fun t => t.standbyBank bank (t.writeItem item value))

/-- POLICY_WRITE (R128). -/
def execPolicyWrite (p : PortNo) (tag bank item value : Nat) (s : State) : Host.Outcome State Fault Refusal :=
  .next (s.event (evPolicyWrite p tag bank item value))

/-- A step put at an index: replaced, or appended at one more than the number of steps (R129). -/
def putStep (steps : List Step) (index : Nat) (st : Step) : List Step :=
  if index ≤ steps.length then steps.set (index - 1) st else steps ++ [st]

def State.writeStep (s : State) (letter index : Nat) (record : StepRecord) (b : BankId) : Verdict :=
  match letterOf letter with
  | none => .refuse .range
  | some l =>
    let steps := (s.bank b).recipe l
    if 1 ≤ index ∧ index ≤ steps.length + 1 ∧ index ≤ stepLimit then
      match stepOf record with
      | none => .refuse .range
      | some st =>
        if st.interlocked then .accept (s.setBank ((s.bank b).setRecipe (putStep steps index st) l) b) .none
        else .refuse .interlock
    else .refuse .range

def evRecipeWrite (p : PortNo) (tag bank letter index : Nat) (record : StepRecord) (s : State) : State :=
  s.request p 22 tag true (State.lockCovered p fun t => t.standbyBank bank (t.writeStep letter index record))

/-- RECIPE_WRITE (R129, R94, R95). -/
def execRecipeWrite (p : PortNo) (tag bank letter index : Nat) (record : StepRecord) (s : State) :
    Host.Outcome State Fault Refusal :=
  .next (s.event (evRecipeWrite p tag bank letter index record))

def State.truncateRecipe (s : State) (letter count : Nat) (b : BankId) : Verdict :=
  match letterOf letter with
  | none => .refuse .range
  | some l =>
    let steps := (s.bank b).recipe l
    if count ≤ steps.length then .accept (s.setBank ((s.bank b).setRecipe (steps.take count) l) b) .none
    else .refuse .range

def evRecipeTruncate (p : PortNo) (tag bank letter count : Nat) (s : State) : State :=
  s.request p 23 tag true (State.lockCovered p fun t => t.standbyBank bank (t.truncateRecipe letter count))

/-- RECIPE_TRUNCATE (R130). -/
def execRecipeTruncate (p : PortNo) (tag bank letter count : Nat) (s : State) : Host.Outcome State Fault Refusal :=
  .next (s.event (evRecipeTruncate p tag bank letter count))

/-! ## ASSIGN (R131, R2) -/

/-- The entry that an ASSIGN asks for: `none` where its owner or letter is out of range with present yes (R131). -/
def entryOf (present owner letter : Nat) : Option (Option Assignment) :=
  if flagOf present then
    match portOf owner, letterOf letter with
    | some o, some l => some (some ⟨o, l⟩)
    | _, _ => none
  else some none

/-- The states in which ASSIGN may change a filter: ABSENT, UNKNOWN, IN_SERVICE, HELD_OUT (R2). -/
def Service.isAssignable : Service → Bool
  | .unknown | .inService _ | .heldOut _ => true
  | .due _ _ | .called _ _ | .washing _ _ | .ripening _ => false

/-- The record after an accepted ASSIGN, by the table of R2. -/
def assignedRecord (old : Option Filter) (entry : Option Assignment) : Option Filter :=
  match entry, old with
  | none, _ => none
  | some a, none => some (Filter.fresh a)
  | some a, some r => some { r with owner := a.owner, letter := a.letter }

/-- RECONCILE goes to the new owner where the filter came from ABSENT or an UNKNOWN filter's owner changed (R131). -/
def announces (old new : Option Filter) : Option PortNo :=
  match old, new with
  | none, some r => some r.owner
  | some o, some r => if o.service.isUnknown && o.owner != r.owner then some r.owner else none
  | _, none => none

/-- The table and the record change together, then RECONCILE is posted with the new owner's count (R131). -/
def State.applyAssign (s : State) (f : FilterNo) (entry : Option Assignment) : State :=
  let new := assignedRecord (s.filter f) entry
  let t := s.setFilter f new
  match announces (s.filter f) new with
  | some o => t.postTo o (.reconcile (t.unknownCount o))
  | none => t

def State.assign (s : State) (f : FilterNo) (present owner letter : Nat) : Verdict :=
  match entryOf present owner letter with
  | none => .refuse .range
  | some entry =>
    if (s.filter f).all fun r => r.service.isAssignable then
      if s.breaksActive (s.setFilter f (assignedRecord (s.filter f) entry)) then .refuse .invalid
      else .accept (s.applyAssign f entry) .none
    else .refuse .wrongState

/-- The filter number is the port's test, before the lock (R152 step 6, R131). -/
def evAssign (p : PortNo) (tag filter present owner letter : Nat) (s : State) : State :=
  s.request p 24 tag true fun t =>
    match filterOf filter with
    | none => (t, .refused .badFilter)
    | some f => State.lockCovered p (fun u => u.assign f present owner letter) t

/-- ASSIGN (R131). -/
def execAssign (p : PortNo) (tag filter present owner letter : Nat) (s : State) : Host.Outcome State Fault Refusal :=
  .next (s.event (evAssign p tag filter present owner letter))

/-! ## PLANT_WRITE (R132) -/

/-- The block that applies a setting acts in the event of its write (R132); `old` is the enable before the write (R134). -/
def State.applySetting (s : State) (old : Bool) : Setting → State
  | .capacity => s.cutVolume
  | .returnRate => s
  | .quietTime => s.applyTimesAll
  | .lostTime => s.applyTimesAll
  | .polarity i => s.qualify i
  | .qualify i => s.qualify i
  | .stormEnable => if s.plant.stormEnable then (if old then s else s.stormActs) else s.cancelLineSwitch

def State.writePlant (s : State) (setting input value : Nat) : Verdict :=
  match settingOf setting input with
  | none => .refuse .range
  | some x =>
    let t := { s with plant := s.plant.setValue value x }
    if !s.plant.accepts value x then .refuse .range
    else if s.breaksActive t then .refuse .invalid
    else .accept (t.applySetting s.plant.stormEnable x) .none

def evPlantWrite (p : PortNo) (tag setting input value : Nat) (s : State) : State :=
  s.request p 25 tag true (State.lockCovered p fun t => t.writePlant setting input value)

/-- PLANT_WRITE (R132). -/
def execPlantWrite (p : PortNo) (tag setting input value : Nat) (s : State) : Host.Outcome State Fault Refusal :=
  .next (s.event (evPlantWrite p tag setting input value))

/-! ## POSTURE_SWITCH (R133) -/

def State.requestSwitch (s : State) (target : Nat) : Verdict :=
  match bankOf target with
  | none => .refuse .range
  | some b =>
    if b = s.active then .accept { s with switch := none } .none
    else if s.validBank b then .accept { s with switch := some ⟨b, .station⟩ } .none
    else .refuse .invalid

def evPostureSwitch (p : PortNo) (tag target : Nat) (s : State) : State :=
  s.request p 26 tag true (State.lockCovered p fun t => t.requestSwitch target)

/-- POSTURE_SWITCH (R133). -/
def execPostureSwitch (p : PortNo) (tag target : Nat) (s : State) : Host.Outcome State Fault Refusal :=
  .next (s.event (evPostureSwitch p tag target))

/-! ## STORE (R168) and STORE_COMPLETE (R169) -/

/-- The live content that a STORE copies (R168). -/
def State.liveContent (s : State) : Content where
  normal := s.normal
  storm := s.storm
  plant := s.plant
  assignments := s.filters.map fun r => r.map fun x => ⟨x.owner, x.letter⟩

/-- A STORE is accepted where none is in flight; from then on the image is INVALID (R168). -/
def State.beginStore (s : State) (p : PortNo) : Verdict :=
  match s.storing with
  | some _ => .refuse .storeBusy
  | none =>
      .accept { s with storing := some ⟨p, s.liveContent, 0⟩, image := { s.image with valid := false } } .none

def evStore (p : PortNo) (tag : Nat) (s : State) : State :=
  s.request p 27 tag true (State.lockCovered p fun t => t.beginStore p)

/-- STORE (R168). -/
def execStore (p : PortNo) (tag : Nat) (s : State) : Host.Outcome State Fault Refusal :=
  .next (s.event (evStore p tag))

/-- The write completes, with whether the content agrees with the snapshot (R169). -/
def State.endStore (s : State) (w : StoreWrite) (agrees : Bool) : State :=
  { s with storing := none, image := if agrees then ⟨true, w.snapshot⟩ else s.image }.postTo w.requester (.stored agrees)

/-- No completion falls before 0.5 s from the acceptance (R169). -/
def evStoreComplete (agrees : Bool) (s : State) : State :=
  match s.storing with
  | some w => if storeMinSteps ≤ w.age then s.endStore w agrees else s
  | none => s

/-- STORE_COMPLETE (R169). -/
def execStoreComplete (agrees : Bool) (s : State) : Host.Outcome State Fault Refusal :=
  .next (s.event (evStoreComplete agrees))

end Sys2Proof.Machine
end

