-- ==== Sys2Proof/Machine/PortRequests.lean ====
section
/-! DEFINITION. The requests of the Station Port Controller and the Attention Unit: ATTACH, DETACH (spec/09 section 9.5),
ATTENTION (spec/10 section 10.4), and the request of an unknown kind (R152). -/

namespace Sys2Proof.Machine

/-! ## ATTACH (R156) -/

/-- The name and revision checks of R156. -/
def attachForm (revision : Nat) (name : List Nat) : Bool :=
  revision == 1 && 1 ≤ name.length && name.length ≤ 16 && name.all fun c => 32 ≤ c && c ≤ 126

/-- ATTACH from DETACHED or LOST: a new attachment with every class unmasked (R156, R164). -/
def State.newAttachment (s : State) (p : PortNo) (name : List Nat) : State :=
  let t := s.setPort p { s.port p with state := .attached, name := some name, lastGood := s.clock, mask := 0 }
  let u := if 0 < t.unknownCount p then t.postTo p (.reconcile (t.unknownCount p)) else t
  u.postPeers p

/-- In ATTACHED an ATTACH replaces the name alone (R156). -/
def State.attachPort (s : State) (p : PortNo) (name : List Nat) : State :=
  if (s.port p).state.isAttached then s.setPort p { s.port p with name := some name } else s.newAttachment p name

def evAttach (p : PortNo) (tag revision : Nat) (name : List Nat) (s : State) : State :=
  s.handle p 1 tag (attachForm revision name) fun t => .accept (t.attachPort p name) (.attach p)

/-- ATTACH (R156). -/
def execAttach (p : PortNo) (tag revision : Nat) (name : List Nat) (s : State) : Host.Outcome State Fault Refusal :=
  .next (s.event (evAttach p tag revision name))

/-! ## DETACH (R157) -/

/-- DETACHED, the leaving effects, then the latches cleared, then PEER (R157, R164). -/
def State.detachPort (s : State) (p : PortNo) : State :=
  let t := s.leavePort p .detached
  (t.setPort p { t.port p with name := none, latches := Latches.clear }).postPeers p

def evDetach (p : PortNo) (tag : Nat) (s : State) : State :=
  s.handle p 2 tag true fun t => .accept (t.detachPort p) .none

/-- DETACH (R157). -/
def execDetach (p : PortNo) (tag : Nat) (s : State) : Host.Outcome State Fault Refusal :=
  .next (s.event (evDetach p tag))

/-! ## ATTENTION (R163) -/

/-- A mask has ten bits; bits 10 to 15 must be clear (R174). -/
def maskForm (mask : Option Nat) : Bool := mask.all fun m => m < 1024

/-- The mask that an ATTENTION leaves in force (R163 step 1). -/
def Port.newMask (q : Port) (mask : Option Nat) : BitVec 10 := (mask.map (BitVec.ofNat 10)).getD q.mask

/-- The port after the fetch, and the reply's data (R163). -/
def Port.fetch (q : Port) (mask : Option Nat) : Port × ReplyData :=
  let m := q.newMask mask
  match q.latches.firstUnmasked m with
  | some c =>
      ({ q with mask := m, latches := q.latches.clearClass c },
       .attention (q.latches.notice c) m (q.latches.clearClass c).pendingSet)
  | none => ({ q with mask := m }, .attention none m q.latches.pendingSet)

def evAttention (p : PortNo) (tag : Nat) (mask : Option Nat) (s : State) : State :=
  s.handle p 4 tag (maskForm mask) fun t =>
    .accept (t.setPort p ((t.port p).fetch mask).1) ((t.port p).fetch mask).2

/-- ATTENTION (R163). -/
def execAttention (p : PortNo) (tag : Nat) (mask : Option Nat) (s : State) : Host.Outcome State Fault Refusal :=
  .next (s.event (evAttention p tag mask))

/-! ## UNKNOWN_REQUEST_KIND (R152 steps 1 and 3) -/

/-- The event is that of an unknown kind or an unknown view (log 2); neither is ever in form. -/
def evUnknownRequestKind (p : PortNo) (tag kind view : Nat) (s : State) : State :=
  if unknownRequest kind view then s.request p kind tag false fun t => (t, .refused .badFormat) else s

/-- UNKNOWN_REQUEST_KIND (R152). -/
def execUnknownRequestKind (p : PortNo) (tag kind view : Nat) (s : State) : Host.Outcome State Fault Refusal :=
  .next (s.event (evUnknownRequestKind p tag kind view))

end Sys2Proof.Machine
end

