-- ==== Sys2Proof/Machine/Views.lean ====
section
/-! DEFINITION. The READ views: a snapshot for each, and the argument tests of R142 (spec/08 sections 8.2 to 8.5). -/

namespace Sys2Proof.Machine

/-- A READ request: its view's data, or the refusal of an argument test; the state is the same after it (R142). -/
def State.read (s : State) (p : PortNo) (tag : Nat) (view : State → Except RefusalCode ReplyData) : State :=
  s.handle p kindRead tag true fun t =>
    match view t with
    | .ok data => .accept t data
    | .error code => .refuse code

/-! ## FILTER (R24), ASSIGN (R138) -/

def viewFilter (filter : Nat) (s : State) : Except RefusalCode ReplyData :=
  match filterOf filter with
  | some f => .ok (.filter f (s.filter f))
  | none => .error .badFilter

def evReadFilter (p : PortNo) (tag filter : Nat) (s : State) : State := s.read p tag (viewFilter filter)

/-- READ_FILTER (R24). -/
def execReadFilter (p : PortNo) (tag filter : Nat) (s : State) : Host.Outcome State Fault Refusal :=
  .next (s.event (evReadFilter p tag filter))

def viewAssign (filter : Nat) (s : State) : Except RefusalCode ReplyData :=
  match filterOf filter with
  | some f => .ok (.assign f (s.assignment f))
  | none => .error .badFilter

def evReadAssign (p : PortNo) (tag filter : Nat) (s : State) : State := s.read p tag (viewAssign filter)

/-- READ_ASSIGN (R138). -/
def execReadAssign (p : PortNo) (tag filter : Nat) (s : State) : Host.Outcome State Fault Refusal :=
  .next (s.event (evReadAssign p tag filter))

/-! ## QUEUE (R38) -/

/-- One entry as the view shows it; an entry's filter is present and DUE (R25). -/
def State.queueLine (s : State) (f : FilterNo) : Option QueueLine :=
  match s.ownerOf f, s.dueFields f with
  | some o, some d => some ⟨f, o, d.cls, d.queueTime, s.eligible f⟩
  | _, _ => none

def viewQueue (start : Nat) (s : State) : Except RefusalCode ReplyData :=
  if start ≤ 31 then
    .ok (.queue s.queue.length start (((s.queue.drop start).take 8).filterMap s.queueLine))
  else .error .range

def evReadQueue (p : PortNo) (tag start : Nat) (s : State) : State := s.read p tag (viewQueue start)

/-- READ_QUEUE (R38). -/
def execReadQueue (p : PortNo) (tag start : Nat) (s : State) : Host.Outcome State Fault Refusal :=
  .next (s.event (evReadQueue p tag start))

/-! ## HEADER (R143) -/

/-- Seconds left to a limit, 0 once it is reached. -/
def State.left (s : State) (start limit : Nat) : Nat := limit - (s.clock - start)

/-- The seconds left on the one Wash Unit timer with a limit that runs (R143). -/
def State.timerRemaining (s : State) : Option Nat :=
  match s.header with
  | .calling w => some (s.left w.selectionTime (s.bank w.bank).callWindow)
  | .gated w _ since => some (s.left since (s.bank w.bank).gateWindow)
  | .holding w _ since => some (s.left since (s.bank w.bank).tripHoldLimit)
  | .settling since taken => some (if taken then 0 else s.left since s.activeBank.headerGap)
  | .stepping _ _ | .aborting _ _ _ | .offline | .idle | .runon => none

def State.headerView (s : State) : HeaderView where
  header := s.header
  active := s.active
  remaining := s.timerRemaining
  outputs := s.outputs
  pump := s.pumpPair
  blower := s.blowerPair
  inputs := s.inputs.map InputLine.asserted
  holder := s.holder
  budget := s.budget
  hold := s.hold
  holdFlags := s.holdFlags

def viewHeader (s : State) : Except RefusalCode ReplyData := .ok (.header s.headerView)

def evReadHeader (p : PortNo) (tag : Nat) (s : State) : State := s.read p tag viewHeader

/-- READ_HEADER (R143). -/
def execReadHeader (p : PortNo) (tag : Nat) (s : State) : Host.Outcome State Fault Refusal :=
  .next (s.event (evReadHeader p tag))

/-! ## BASIN (R120) -/

def State.basinView (s : State) : BasinView where
  volume := s.volume
  capacity := s.plant.capacity
  headroom := s.headroom
  returnRate := s.plant.returnRate
  basinHigh := s.asserted .basinHigh
  basinEmpty := s.asserted .basinEmpty
  returnRun := s.asserted .returnRun
  plannedA := plannedVolume s.activeBank.recipeA
  plannedB := plannedVolume s.activeBank.recipeB
  volumeAdded := s.header.wash.map Wash.volumeAdded

def viewBasin (s : State) : Except RefusalCode ReplyData := .ok (.basin s.basinView)

def evReadBasin (p : PortNo) (tag : Nat) (s : State) : State := s.read p tag viewBasin

/-- READ_BASIN (R120). -/
def execReadBasin (p : PortNo) (tag : Nat) (s : State) : Host.Outcome State Fault Refusal :=
  .next (s.event (evReadBasin p tag))

/-! ## POLICY, RECIPE, PLANT (R138) -/

def viewPolicy (bank item : Nat) (s : State) : Except RefusalCode ReplyData :=
  match bankOf bank, itemOf item with
  | some b, some i => .ok (.policy b i ((s.bank b).item i))
  | _, _ => .error .range

def evReadPolicy (p : PortNo) (tag bank item : Nat) (s : State) : State := s.read p tag (viewPolicy bank item)

/-- READ_POLICY (R138). -/
def execReadPolicy (p : PortNo) (tag bank item : Nat) (s : State) : Host.Outcome State Fault Refusal :=
  .next (s.event (evReadPolicy p tag bank item))

/-- The number of steps, and the step named or none where it lies beyond them (R138). -/
def viewRecipe (bank letter step : Nat) (s : State) : Except RefusalCode ReplyData :=
  match bankOf bank, letterOf letter with
  | some b, some l =>
      if 1 ≤ step ∧ step ≤ stepLimit then
        .ok (.recipe b l step ((s.bank b).recipe l).length ((s.bank b).recipe l)[step - 1]?)
      else .error .range
  | _, _ => .error .range

def evReadRecipe (p : PortNo) (tag bank letter step : Nat) (s : State) : State :=
  s.read p tag (viewRecipe bank letter step)

/-- READ_RECIPE (R138). -/
def execReadRecipe (p : PortNo) (tag bank letter step : Nat) (s : State) : Host.Outcome State Fault Refusal :=
  .next (s.event (evReadRecipe p tag bank letter step))

def viewPlant (setting input : Nat) (s : State) : Except RefusalCode ReplyData :=
  match settingOf setting input with
  | some x => .ok (.plant x (s.plant.value x))
  | none => .error .range

def evReadPlant (p : PortNo) (tag setting input : Nat) (s : State) : State := s.read p tag (viewPlant setting input)

/-- READ_PLANT (R138). -/
def execReadPlant (p : PortNo) (tag setting input : Nat) (s : State) : Host.Outcome State Fault Refusal :=
  .next (s.event (evReadPlant p tag setting input))

/-! ## HISTORY (R141) -/

/-- The record of an age, 0 the newest. -/
def State.recordAt (s : State) (age : Nat) : Option HistoryRecord := s.history.reverse[age]?

def viewHistory (age : Nat) (s : State) : Except RefusalCode ReplyData :=
  match s.recordAt age with
  | some r => .ok (.history s.history.length r)
  | none => .error .range

def evReadHistory (p : PortNo) (tag age : Nat) (s : State) : State := s.read p tag (viewHistory age)

/-- READ_HISTORY (R141). -/
def execReadHistory (p : PortNo) (tag age : Nat) (s : State) : Host.Outcome State Fault Refusal :=
  .next (s.event (evReadHistory p tag age))

/-! ## PORTS (R144), CLOCK (R145) -/

def State.portsView (s : State) (sender named : PortNo) : PortsView where
  sender := sender
  named := named
  states := s.ports.mapIdx fun _ q => q.state
  eligible := s.ports.mapIdx fun i _ => s.eligibleCount i
  name := (s.port named).name
  lock := s.lock
  switch := s.switch

def viewPorts (sender : PortNo) (named : Nat) (s : State) : Except RefusalCode ReplyData :=
  match portOf named with
  | some q => .ok (.ports (s.portsView sender q))
  | none => .error .range

def evReadPorts (p : PortNo) (tag named : Nat) (s : State) : State := s.read p tag (viewPorts p named)

/-- READ_PORTS (R144). -/
def execReadPorts (p : PortNo) (tag named : Nat) (s : State) : Host.Outcome State Fault Refusal :=
  .next (s.event (evReadPorts p tag named))

def viewClock (s : State) : Except RefusalCode ReplyData := .ok (.clock s.clock s.nextSeq s.history.length)

def evReadClock (p : PortNo) (tag : Nat) (s : State) : State := s.read p tag viewClock

/-- READ_CLOCK (R145). -/
def execReadClock (p : PortNo) (tag : Nat) (s : State) : Host.Outcome State Fault Refusal :=
  .next (s.event (evReadClock p tag))

end Sys2Proof.Machine
end

