-- ==== Sys2Proof/Machine/WashRequests.lean ====
section
/-! DEFINITION. The requests of the Wash Unit: ISOLATED, DECLINE, PROCEED, ABANDON (spec/04). -/

namespace Sys2Proof.Machine

/-! ## ISOLATED (R65) -/

/-- Step 1 of the transaction becomes due; the filter is WASHING (R65, R70). A snapshot holds at least one step (R63, log 23). -/
def State.isolate (s : State) (w : Wash) (d : Due) (start : Int) : State :=
  match w.stepAt 1 with
  | some st => (s.setService w.filter (.washing d start)).stepDue w s.clock 1 st
  | none => s

def State.isolated (s : State) (f : FilterNo) (r : Filter) : Verdict :=
  match r.service, s.header with
  | .called d start, .calling w => if w.filter = f then .accept (s.isolate w d start) .none else .refuse .wrongState
  | _, _ => .refuse .wrongState

def evIsolated (p : PortNo) (tag filter : Nat) (s : State) : State :=
  s.handle p 8 tag true fun t => t.ownFilter p filter t.isolated

/-- ISOLATED (R65). -/
def execIsolated (p : PortNo) (tag filter : Nat) (s : State) : Host.Outcome State Fault Refusal :=
  .next (s.event (evIsolated p tag filter))

/-! ## DECLINE (R66) -/

def State.decline (s : State) (f : FilterNo) (r : Filter) : Verdict :=
  match r.service, s.header with
  | .called _ _, .calling w => if w.filter = f then .accept (s.endCall w (some s.clock)) .none else .refuse .wrongState
  | _, _ => .refuse .wrongState

def evDecline (p : PortNo) (tag filter : Nat) (s : State) : State :=
  s.handle p 9 tag true fun t => t.ownFilter p filter t.decline

/-- DECLINE (R66). -/
def execDecline (p : PortNo) (tag filter : Nat) (s : State) : Host.Outcome State Fault Refusal :=
  .next (s.event (evDecline p tag filter))

/-! ## PROCEED (R71) -/

/-- The gated step begins (R71, R73). -/
def State.proceedGate (s : State) (w : Wash) (r : Run) : State :=
  match w.stepAt r.step with
  | some st => s.beginStep w r st
  | none => s

def State.proceed (s : State) (f : FilterNo) (x : Filter) (step : Nat) : Verdict :=
  match x.service, s.header with
  | .washing _ _, .gated w r _ =>
      if w.filter ≠ f then .refuse .wrongState
      else if step = r.step then .accept (s.proceedGate w r) .none
      else .refuse .wrongStep
  | _, _ => .refuse .wrongState

def evProceed (p : PortNo) (tag filter step : Nat) (s : State) : State :=
  s.handle p 10 tag true fun t => t.ownFilter p filter fun f x => t.proceed f x step

/-- PROCEED (R71). -/
def execProceed (p : PortNo) (tag filter step : Nat) (s : State) : Host.Outcome State Fault Refusal :=
  .next (s.event (evProceed p tag filter step))

/-! ## ABANDON (R80) -/

def State.abandon (s : State) (f : FilterNo) (x : Filter) : Verdict :=
  match x.service, s.header.washing with
  | .washing _ _, some w => if w.filter = f then .accept (s.abort .abandoned) .none else .refuse .wrongState
  | _, _ => .refuse .wrongState

def evAbandon (p : PortNo) (tag filter : Nat) (s : State) : State :=
  s.handle p 11 tag true fun t => t.ownFilter p filter t.abandon

/-- ABANDON (R80). -/
def execAbandon (p : PortNo) (tag filter : Nat) (s : State) : Host.Outcome State Fault Refusal :=
  .next (s.event (evAbandon p tag filter))

end Sys2Proof.Machine
end

