-- ==== Sys2Proof/Machine/LineEvents.lean ====
section
/-! DEFINITION. The events of the station lines: characters, discarded frames, idle lines, breaks, replies sent (spec/09). -/

namespace Sys2Proof.Machine

/-! ## FRAME_DISCARD, CHARACTER_GAP_TIMEOUT (R149) -/

/-- Whatever the character showed, the frame is discarded alike (R149). -/
def evFrameDiscard (p : PortNo) (_cause : DiscardCause) (s : State) : State := s.discardFrame p

/-- FRAME_DISCARD (R149). -/
def execFrameDiscard (p : PortNo) (cause : DiscardCause) (s : State) : Host.Outcome State Fault Refusal :=
  .next (s.event (evFrameDiscard p cause))

def evCharacterGapTimeout (p : PortNo) (s : State) : State := s.discardFrame p

/-- CHARACTER_GAP_TIMEOUT (R149). -/
def execCharacterGapTimeout (p : PortNo) (s : State) : Host.Outcome State Fault Refusal :=
  .next (s.event (evCharacterGapTimeout p))

/-! ## RESYNC_IDLE (R149) -/

def evResyncIdle (p : PortNo) (s : State) : State :=
  if s.receives p && (s.port p).receiver == .resync then s.setReceiver p .hunting else s

/-- RESYNC_IDLE (R149). -/
def execResyncIdle (p : PortNo) (s : State) : Host.Outcome State Fault Refusal := .next (s.event (evResyncIdle p))

/-! ## LINE_BREAK (R150) -/

/-- A break takes a BLOCKED port to DETACHED; its latches, mask and replies are kept (R150, R164). -/
def State.unblock (s : State) (p : PortNo) : State :=
  (s.setPort p { s.port p with state := .detached, badCount := 0, name := none, receiver := .resync }).postPeers p

/-- In any other state a break is a damaged character: in FRAMING the frame is discarded (R150). -/
def evLineBreak (p : PortNo) (s : State) : State :=
  if (s.port p).state = .blocked then s.unblock p else s.discardFrame p

/-- LINE_BREAK (R150). -/
def execLineBreak (p : PortNo) (s : State) : Host.Outcome State Fault Refusal := .next (s.event (evLineBreak p))

/-! ## REQUEST_DISCARDED_QUEUE_FULL, REPLY_SENT (R151) -/

/-- A good frame whose request is discarded, whatever it asked. -/
def evRequestDiscarded (p : PortNo) (s : State) : State :=
  if s.takesFrame p && s.repliesFull p then s.goodFrame p else s

/-- REQUEST_DISCARDED_QUEUE_FULL (R151). -/
def execRequestDiscardedQueueFull (p : PortNo) (s : State) : Host.Outcome State Fault Refusal :=
  .next (s.event (evRequestDiscarded p))

/-- The oldest reply leaves the queue; its frame is what the line has carried (log 24). -/
def evReplySent (p : PortNo) (s : State) : State :=
  match (s.port p).replies with
  | r :: rest => s.setPort p { s.port p with replies := rest, txFrame := some r.frame }
  | [] => s

/-- REPLY_SENT (R151). -/
def execReplySent (p : PortNo) (s : State) : Host.Outcome State Fault Refusal := .next (s.event (evReplySent p))

/-! ## START_BYTE_RECEIVED (R148, R149) -/

/-- The event of the request that a good frame spells; a frame spells no other command. -/
def requestEvent (i : Instr) : State → State :=
  match i with
  | .attach p tag revision name => evAttach p tag revision name
  | .detach p tag => evDetach p tag
  | .readFilter p tag filter => evReadFilter p tag filter
  | .readQueue p tag start => evReadQueue p tag start
  | .readHeader p tag => evReadHeader p tag
  | .readBasin p tag => evReadBasin p tag
  | .readPolicy p tag bank item => evReadPolicy p tag bank item
  | .readRecipe p tag bank letter step => evReadRecipe p tag bank letter step
  | .readPlant p tag setting input => evReadPlant p tag setting input
  | .readAssign p tag filter => evReadAssign p tag filter
  | .readHistory p tag age => evReadHistory p tag age
  | .readPorts p tag named => evReadPorts p tag named
  | .readClock p tag => evReadClock p tag
  | .attention p tag mask => evAttention p tag mask
  | .condition p tag entries => evCondition p tag entries
  | .washRequest p tag filter cls => evWashRequest p tag filter cls
  | .withdraw p tag filter => evWithdraw p tag filter
  | .holdOut p tag filter forced => evHoldOut p tag filter forced
  | .release p tag filter => evRelease p tag filter
  | .returnFilter p tag filter => evReturnFilter p tag filter
  | .reconcile p tag filter declared hours => evReconcile p tag filter declared hours
  | .isolated p tag filter => evIsolated p tag filter
  | .decline p tag filter => evDecline p tag filter
  | .proceed p tag filter step => evProceed p tag filter step
  | .abandon p tag filter => evAbandon p tag filter
  | .holdHeader p tag => evHoldHeader p tag
  | .releaseHold p tag => evReleaseHold p tag
  | .basinDeclare p tag litres => evBasinDeclare p tag litres
  | .policyLock p tag => evPolicyLock p tag
  | .policyUnlock p tag => evPolicyUnlock p tag
  | .policyWrite p tag bank item value => evPolicyWrite p tag bank item value
  | .recipeWrite p tag bank letter index record => evRecipeWrite p tag bank letter index record
  | .recipeTruncate p tag bank letter count => evRecipeTruncate p tag bank letter count
  | .assign p tag filter present owner letter => evAssign p tag filter present owner letter
  | .plantWrite p tag setting input value => evPlantWrite p tag setting input value
  | .postureSwitch p tag target => evPostureSwitch p tag target
  | .store p tag => evStore p tag
  | .unknownRequestKind p tag kind view => evUnknownRequestKind p tag kind view
  | .reset _ _ | .imageLoadComplete _ | .storeComplete _ | .frameDiscard _ _ | .characterGapTimeout _
  | .resyncIdle _ | .lineBreak _ | .requestDiscardedQueueFull _ | .replySent _ | .quietExpiry _ | .lostExpiry _
  | .runTimeExpiry _ | .ripeningExpiry _ | .selection | .holdLimitExpiry | .callWindowExpiry | .gateExpiry
  | .markReached | .stepEnd | .tripHoldLimitExpiry | .gapExpiry | .startWindowExpiry _ | .stopWindowExpiry _
  | .inputRawChange _ _ | .inputQualifyExpiry _ | .basinAccrual | .lockExpiry | .switchTake
  | .startByteReceived _ _ => id

/-- A good frame gathered character by character has the event of the request it carries (R148, R152, log 16). -/
def frameEvent (p : PortNo) (kind tag : Byte) (body : List Byte) (s : State) : State :=
  match decodeRequest p kind tag body with
  | .command i => requestEvent i s
  | .badForm => s.request p kind.toNat tag.toNat false fun t => (t, .refused .badFormat)
  | .unknown => evUnknownRequestKind p tag.toNat kind.toNat 0 s

/-- One sound character at a receiver: hunting for the start byte, or gathering a frame (R148, R149). -/
def evStartByteReceived (p : PortNo) (byte : Byte) (s : State) : State :=
  if s.receives p then
    match (s.port p).receiver with
    | .hunting => if byte = startByte then s.setReceiver p (.framing []) else s
    | .framing got =>
      match gather (got ++ [byte]) with
      | .more => s.setReceiver p (.framing (got ++ [byte]))
      | .badLength => s.discardFrame p
      | .badCrc => s.discardFrame p
      | .good kind tag body => frameEvent p kind tag body s
    | .resync => s
  else s

/-- START_BYTE_RECEIVED (R148). -/
def execStartByteReceived (p : PortNo) (byte : Byte) (s : State) : Host.Outcome State Fault Refusal :=
  .next (s.event (evStartByteReceived p byte))

end Sys2Proof.Machine
end

