-- ==== Sys2Proof/Machine/Startup.lean ====
section
/-! DEFINITION. RESET and the completion of the image load (spec/11 sections 11.1 and 11.2). -/

namespace Sys2Proof.Machine

/-! ## RESET (R165, R170) -/

/-- Each raw level stays where the plant has it; the conditioner starts afresh (R97, log 22). -/
def InputLine.restart (x : InputLine) : InputLine := InputLine.start x.high

/-- A reset during a STORE stops the write and leaves the image INVALID; otherwise the image stands (R170). -/
def State.imageAtReset (s : State) : Image := if s.storing.isSome then { s.image with valid := false } else s.image

/-- The release of the RESET pin: every block starts afresh and the load begins; what the part does not hold (the raw
levels), the store image, and the model's own queue and counter stay (log 22). -/
def State.restart (s : State) (rate0 rate1 : Bool) : State :=
  { State.reset with
    pending := s.pending
    draws := s.draws
    rate := BitRate.ofStraps rate0 rate1
    inputs := s.inputs.map InputLine.restart
    image := s.imageAtReset }

/-- RESET (R165). -/
def execReset (rate0 rate1 : Bool) (s : State) : Host.Outcome State Fault Refusal := .next (s.restart rate0 rate1)

/-! ## IMAGE_LOAD_COMPLETE (R166) -/

/-- What the load uses: the image's content where its status and its integrity check pass, else the defaults (R166). -/
def State.loadedContent (s : State) (intact : Bool) : Content :=
  if s.image.valid && intact then s.image.content else Content.default

/-- Every block takes its start-up state (R166, spec/11 section 11.2) under the loaded content. -/
def State.startUp (s : State) (c : Content) : State :=
  { State.reset with
    pending := s.pending
    draws := s.draws
    phase := .running
    clock := s.clock
    hundredth := s.hundredth
    rate := s.rate
    filters := c.assignments.map fun a => a.map Filter.fresh
    inputs := s.inputs.map InputLine.restart
    volume := c.plant.capacity
    normal := c.normal
    storm := c.storm
    plant := c.plant
    image := s.image }

/-- The load completes: start-up state, then IDLE where the NORMAL bank is valid and OFFLINE where it is not (R166, R61). -/
def State.completeLoad (s : State) (intact : Bool) : State :=
  let t := s.startUp (s.loadedContent intact)
  t.withHeader (if t.validBank .normal then .idle else .offline)

/-- Only a load under way completes (log 2). -/
def evImageLoadComplete (intact : Bool) (s : State) : State :=
  match s.phase with
  | .loading _ => s.completeLoad intact
  | .running => s

/-- IMAGE_LOAD_COMPLETE (R166). -/
def execImageLoadComplete (intact : Bool) (s : State) : Host.Outcome State Fault Refusal :=
  .next (evImageLoadComplete intact s)

end Sys2Proof.Machine
end

