-- ==== Sys2Proof/Machine/Time.lean ====
section
/-! DEFINITION. The passing of time, which is what a step does on an empty queue (log 1): the events due at the present
instant one by one (log 5), then 10 ms. -/

namespace Sys2Proof.Machine

/-! ## Events due now, in the model's order (log 5) -/

/-- The store write has run its full 3 s (R169). -/
def State.storeDue (s : State) : Bool := s.storing.any fun w => storeMaxSteps ≤ w.age

/-- A write that runs its full time completes with a free verdict (R169, log 21). -/
def State.storeRunsOut (s : State) : State :=
  evStoreComplete (Config.storeVerified s.draws) { s with draws := s.draws + 1 }

/-- The first port, filter, input or pair for which an event is due. -/
def firstDue {α : Type} (due : α → Bool) (all : List α) (e : α → State → State) : Option (State → State) :=
  (all.find? due).map e

/-- An event that is due or not. -/
def whenDue (due : Bool) (e : State → State) : Option (State → State) := if due then some e else none

/-- The events that may be due at one instant, each present where it is, in the order in which the idle step takes them. -/
def State.dueEvents (s : State) : List (Option (State → State)) :=
  [ whenDue s.accrual.isSome evBasinAccrual,
    firstDue s.qualifyDue allInputs evInputQualifyExpiry,
    whenDue s.callDue evCallWindowExpiry,
    whenDue s.gateDue evGateExpiry,
    whenDue s.tripHoldDue evTripHoldLimitExpiry,
    whenDue s.markDue evMarkReached,
    whenDue s.stepEndDue evStepEnd,
    firstDue s.startWindowDue allPairs evStartWindowExpiry,
    firstDue s.stopWindowDue allPairs evStopWindowExpiry,
    whenDue s.gapDue State.expireGap,
    whenDue s.holdDue evHoldLimitExpiry,
    firstDue s.quietDue allPorts evQuietExpiry,
    firstDue s.lostDue allPorts evLostExpiry,
    firstDue s.runTimeDue allFilters evRunTimeExpiry,
    firstDue s.ripeningDue allFilters evRipeningExpiry,
    whenDue s.lockDue evLockExpiry,
    whenDue s.storeDue State.storeRunsOut ]

/-- The event that the idle step takes now, if one is due. -/
def State.nextDue (s : State) : Option (State → State) := s.dueEvents.findSome? id

/-! ## The passing of 10 ms -/

/-- Each raw run is 10 ms longer (R96). -/
def State.runInputs (s : State) : State := { s with inputs := s.inputs.map fun x => { x with run := x.run + 1 } }

/-- A STORE in flight is 10 ms older (R169). -/
def State.ageStore (s : State) : State := { s with storing := s.storing.map fun w => { w with age := w.age + 1 } }

/-- The flow of the step whose pattern drives WASH_PUMP ON (R113). -/
def State.pumpFlow (s : State) : Nat :=
  match s.header with
  | .stepping w r => if s.outputs.pump = .on then ((w.stepAt r.step).map Step.flow).getD 0 else 0
  | _ => 0

/-- The second that ends now: its account by the state that stood over it (R113, R114, log 14). -/
def State.openAccrual (s : State) : State :=
  { s with accrual := some ⟨s.pumpFlow, if s.asserted .returnRun then s.plant.returnRate else 0, false, false⟩ }

/-- The clock advances by one; what follows its last second is a free value (spec/00_scope.md "Units and ranges", log 12). -/
def State.advanceClock (s : State) : State :=
  if s.clock < lastSecond then { s with clock := s.clock + 1 }
  else { s with clock := (Config.clockAfterLast s.draws).toNat, draws := s.draws + 1 }

/-- A second of STEPPING: elapsed takes it, or it is due where it brings the step to its mark or its end (R74, R75, log 13). -/
def Run.second (r : Run) (st : Step) : Run :=
  if st.duration ≤ r.elapsed + 1 ∨ r.elapsed + 1 = st.mark then { r with secondDue := true }
  else { r with elapsed := r.elapsed + 1 }

/-- The step timer at a new second (R74). -/
def State.stepSecond (s : State) : State :=
  match s.header with
  | .stepping w r =>
    match w.stepAt r.step with
    | some st => s.withHeader (.stepping w (r.second st))
    | none => s
  | _ => s

/-- A new plant clock second begins. -/
def State.newSecond (s : State) : State := (s.openAccrual.advanceClock.stepSecond)

/-- 10 ms pass. -/
def State.tick (s : State) : State :=
  let t := s.runInputs.ageStore
  if t.hundredth < 99 then { t with hundredth := t.hundredth + 1 } else { t with hundredth := 0 }.newSecond

/-! ## The idle step -/

/-- The load runs for 50 ms; where no command says so, whether the image is intact is a free value (R165, R166, log 7). -/
def State.idleLoading (s : State) (steps : Nat) : State :=
  let t := { s with hundredth := s.hundredth + 1, phase := .loading (steps + 1) }
  if loadSteps ≤ steps + 1 then
    ({ t with draws := t.draws + 1 }).completeLoad (Config.imageIntegrity t.draws)
  else t

/-- What follows at once, then the first event that is due, or 10 ms where none is (log 1, log 5). -/
def State.idleRunning (s : State) : State := (s.atOnce.nextDue.getD State.tick) s.atOnce

def State.idle (s : State) : State :=
  match s.phase with
  | .loading steps => s.idleLoading steps
  | .running => s.idleRunning

end Sys2Proof.Machine
end

