-- ==== Sys2Proof/Machine/Dispatch.lean ====
section
/-! DEFINITION. The meaning of each command, one arm per constructor. -/

namespace Sys2Proof.Machine

def exec (i : Instr) (s : State) : Host.Outcome State Fault Refusal :=
  match i with
  | .reset rate0 rate1 => Sys2Proof.Machine.execReset rate0 rate1 s
  | .imageLoadComplete intact => Sys2Proof.Machine.execImageLoadComplete intact s
  | .attach p tag revision name => Sys2Proof.Machine.execAttach p tag revision name s
  | .detach p tag => Sys2Proof.Machine.execDetach p tag s
  | .readFilter p tag filter => Sys2Proof.Machine.execReadFilter p tag filter s
  | .readQueue p tag start => Sys2Proof.Machine.execReadQueue p tag start s
  | .readHeader p tag => Sys2Proof.Machine.execReadHeader p tag s
  | .readBasin p tag => Sys2Proof.Machine.execReadBasin p tag s
  | .readPolicy p tag bank item => Sys2Proof.Machine.execReadPolicy p tag bank item s
  | .readRecipe p tag bank letter step => Sys2Proof.Machine.execReadRecipe p tag bank letter step s
  | .readPlant p tag setting line => Sys2Proof.Machine.execReadPlant p tag setting line s
  | .readAssign p tag filter => Sys2Proof.Machine.execReadAssign p tag filter s
  | .readHistory p tag age => Sys2Proof.Machine.execReadHistory p tag age s
  | .readPorts p tag named => Sys2Proof.Machine.execReadPorts p tag named s
  | .readClock p tag => Sys2Proof.Machine.execReadClock p tag s
  | .attention p tag mask => Sys2Proof.Machine.execAttention p tag mask s
  | .condition p tag entries => Sys2Proof.Machine.execCondition p tag entries s
  | .washRequest p tag filter cls => Sys2Proof.Machine.execWashRequest p tag filter cls s
  | .withdraw p tag filter => Sys2Proof.Machine.execWithdraw p tag filter s
  | .holdOut p tag filter forced => Sys2Proof.Machine.execHoldOut p tag filter forced s
  | .release p tag filter => Sys2Proof.Machine.execRelease p tag filter s
  | .returnFilter p tag filter => Sys2Proof.Machine.execReturnFilter p tag filter s
  | .reconcile p tag filter declared hours => Sys2Proof.Machine.execReconcile p tag filter declared hours s
  | .isolated p tag filter => Sys2Proof.Machine.execIsolated p tag filter s
  | .decline p tag filter => Sys2Proof.Machine.execDecline p tag filter s
  | .proceed p tag filter step => Sys2Proof.Machine.execProceed p tag filter step s
  | .abandon p tag filter => Sys2Proof.Machine.execAbandon p tag filter s
  | .holdHeader p tag => Sys2Proof.Machine.execHoldHeader p tag s
  | .releaseHold p tag => Sys2Proof.Machine.execReleaseHold p tag s
  | .basinDeclare p tag litres => Sys2Proof.Machine.execBasinDeclare p tag litres s
  | .policyLock p tag => Sys2Proof.Machine.execPolicyLock p tag s
  | .policyUnlock p tag => Sys2Proof.Machine.execPolicyUnlock p tag s
  | .policyWrite p tag bank item value => Sys2Proof.Machine.execPolicyWrite p tag bank item value s
  | .recipeWrite p tag bank letter index record => Sys2Proof.Machine.execRecipeWrite p tag bank letter index record s
  | .recipeTruncate p tag bank letter count => Sys2Proof.Machine.execRecipeTruncate p tag bank letter count s
  | .assign p tag filter present owner letter => Sys2Proof.Machine.execAssign p tag filter present owner letter s
  | .plantWrite p tag setting line value => Sys2Proof.Machine.execPlantWrite p tag setting line value s
  | .postureSwitch p tag target => Sys2Proof.Machine.execPostureSwitch p tag target s
  | .store p tag => Sys2Proof.Machine.execStore p tag s
  | .storeComplete agrees => Sys2Proof.Machine.execStoreComplete agrees s
  | .frameDiscard p cause => Sys2Proof.Machine.execFrameDiscard p cause s
  | .characterGapTimeout p => Sys2Proof.Machine.execCharacterGapTimeout p s
  | .resyncIdle p => Sys2Proof.Machine.execResyncIdle p s
  | .lineBreak p => Sys2Proof.Machine.execLineBreak p s
  | .requestDiscardedQueueFull p => Sys2Proof.Machine.execRequestDiscardedQueueFull p s
  | .replySent p => Sys2Proof.Machine.execReplySent p s
  | .quietExpiry p => Sys2Proof.Machine.execQuietExpiry p s
  | .lostExpiry p => Sys2Proof.Machine.execLostExpiry p s
  | .runTimeExpiry f => Sys2Proof.Machine.execRunTimeExpiry f s
  | .ripeningExpiry f => Sys2Proof.Machine.execRipeningExpiry f s
  | .selection => Sys2Proof.Machine.execSelection s
  | .holdLimitExpiry => Sys2Proof.Machine.execHoldLimitExpiry s
  | .callWindowExpiry => Sys2Proof.Machine.execCallWindowExpiry s
  | .gateExpiry => Sys2Proof.Machine.execGateExpiry s
  | .markReached => Sys2Proof.Machine.execMarkReached s
  | .stepEnd => Sys2Proof.Machine.execStepEnd s
  | .tripHoldLimitExpiry => Sys2Proof.Machine.execTripHoldLimitExpiry s
  | .gapExpiry => Sys2Proof.Machine.execGapExpiry s
  | .startWindowExpiry pair => Sys2Proof.Machine.execStartWindowExpiry pair s
  | .stopWindowExpiry pair => Sys2Proof.Machine.execStopWindowExpiry pair s
  | .inputRawChange line high => Sys2Proof.Machine.execInputRawChange line high s
  | .inputQualifyExpiry line => Sys2Proof.Machine.execInputQualifyExpiry line s
  | .basinAccrual => Sys2Proof.Machine.execBasinAccrual s
  | .lockExpiry => Sys2Proof.Machine.execLockExpiry s
  | .switchTake => Sys2Proof.Machine.execSwitchTake s
  | .startByteReceived p byte => Sys2Proof.Machine.execStartByteReceived p byte s
  | .unknownRequestKind p tag kind view => Sys2Proof.Machine.execUnknownRequestKind p tag kind view s

end Sys2Proof.Machine
end

