-- ==== Sys2Proof/Safety.lean ====
section
/-! DEFINITION. The laws of the part that the rules state of every moment, as predicates of the state. -/

namespace Sys2Proof.Machine

/-! ## When a command is taken as it stands -/

/-- The part runs, and nothing that follows at once is outstanding (log 3). -/
structure Settled (s : State) : Prop where
  running : s.phase = .running
  atOnce  : s.atOnce = s

/-- A request that arrives whole at port `p` reaches its owning block: the port is ATTACHED or QUIET, its receiver is not in
RESYNC, fewer than four replies wait (R149, R151, R153). -/
structure Ready (s : State) (p : PortNo) : Prop extends Settled s where
  attached  : (s.port p).state.isAttached = true
  receiving : (s.port p).receiver ≠ .resync
  room      : (s.port p).replies.length < replyLimit

/-- A frame that arrives whole at port `p` is received and can be answered, whatever the port's state makes of its request: the port
is not BLOCKED, its receiver is not in RESYNC, fewer than four replies wait (R149 to R152). -/
structure Hears (s : State) (p : PortNo) : Prop extends Settled s where
  takes : s.takesFrame p = true
  room  : (s.port p).replies.length < replyLimit

/-- The filter number of a request whose filter must be present and owned by the sender (R152 step 4). -/
def ownedFilter : Instr → Option Nat
  | .isolated _ _ n | .decline _ _ n | .proceed _ _ n _ | .abandon _ _ n | .washRequest _ _ n _ | .withdraw _ _ n
  | .holdOut _ _ n _ | .release _ _ n | .returnFilter _ _ n | .reconcile _ _ n _ _ => some n
  | _ => none

/-- A reply joins the port's reply queue (R151). -/
def State.answered (s : State) (p : PortNo) (kind tag : Nat) (a : Answer) : State := s.reply p ⟨kind, tag, a⟩

/-- The state in which a lock-covered request of the lock's holder is tested: the good frame has counted, the lock time is
renewed (R127). -/
def State.renewed (s : State) (p : PortNo) : State := { s.goodFrame p with lock := some ⟨p, s.clock⟩ }

/-- The port holds the policy lock (R126). -/
def State.holdsLock (s : State) (p : PortNo) : Bool := s.lock.any fun l => l.holder == p

/-- The drive of a supervised output (spec/05 section 5.4). -/
def Lines.ofPair (o : Lines) : Pair → Drive
  | .pump => o.pump
  | .blower => o.blower

/-! ## Filters, queue and header (R25, R26, R62) -/

def State.isCalled (s : State) (f : FilterNo) : Bool :=
  match (s.filter f).map Filter.service with
  | some (.called _ _) => true
  | _ => false

def State.isWashing (s : State) (f : FilterNo) : Bool :=
  match (s.filter f).map Filter.service with
  | some (.washing _ _) => true
  | _ => false

/-- The filter of a call. -/
def Header.calledFilter : Header → Option FilterNo
  | .calling w => some w.filter
  | .gated _ _ _ | .stepping _ _ | .holding _ _ _ | .aborting _ _ _ | .offline | .idle | .runon | .settling _ _ => none

/-- The queue holds the DUE filters and no other, in the order of R26 (so each once); a filter is CALLED exactly when the
header is CALLING for it, WASHING exactly when the header is GATED, STEPPING or HOLDING with it (R62). -/
structure RotationLaw (s : State) : Prop where
  order   : s.queue.Pairwise fun f g => s.precedes f g = true
  member  : ∀ f, f ∈ s.queue ↔ s.isDue f = true
  called  : ∀ f, s.isCalled f = true ↔ s.header.calledFilter = some f
  washing : ∀ f, s.isWashing f = true ↔ s.header.washing.map Wash.filter = some f

/-- In `t` the queue of `s` has the entry of `f` in its place anew: the other entries keep their order, and an ordered queue stays
ordered (R28, R31). -/
structure Requeued (s t : State) (f : FilterNo) : Prop where
  held   : f ∈ t.queue
  others : t.queue.filter (· != f) = s.queue.filter (· != f)
  order  : RotationLaw s → t.queue.Pairwise fun g h => t.precedes g h = true

/-! ## Due fields (R7, R11) -/

/-- A record with due fields has at least one reason, and its class is the highest that its reasons imply. -/
def DueLaw (s : State) : Prop :=
  ∀ f r d, s.filter f = some r → r.service.dueFields = some d → d.reasons.isNonempty = true ∧ d.cls = d.reasons.cls

/-! ## Basin (R112) -/

/-- The basin volume lies between 0 and the capacity. -/
def BasinLaw (s : State) : Prop := s.volume ≤ s.plant.capacity

/-! ## Active bank (R124, R133) -/

/-- Whenever the header is out of OFFLINE the active bank is valid. -/
def ActiveBankLaw (s : State) : Prop := s.phase = .running → s.header ≠ .offline → s.validBank s.active = true

/-- The target of a pending switch is always the standby bank. -/
def SwitchLaw (s : State) : Prop := ∀ x, s.switch = some x → x.target = s.active.other

/-! ## Claims of ports (R53, R54, R57, R126) -/

/-- The lock holder is attached; a hold is the tenure holder's, and its port attached; a flag is never the holder's. -/
structure ClaimLaw (s : State) : Prop where
  lock  : ∀ l, s.lock = some l → (s.port l.holder).state.isAttached = true
  hold  : ∀ h, s.hold = some h → s.holder = some h.port ∧ (s.port h.port).state.isAttached = true
  flags : ∀ p, s.holdFlags.get p = true → s.holder ≠ some p ∧ (s.port p).state.isAttached = true

/-- The budget never exceeds the run length of the active bank (R52). -/
def BudgetLaw (s : State) : Prop := s.budget ≤ s.activeBank.runLength

/-! ## Ports (R150, R151) -/

/-- At most four replies wait at a port; its bad count is 8 exactly in BLOCKED, and below 8 otherwise. -/
structure PortLaw (s : State) : Prop where
  replies : ∀ p, (s.port p).replies.length ≤ replyLimit
  bad     : ∀ p, (s.port p).badCount ≤ badLimit
  blocked : ∀ p, (s.port p).badCount = badLimit ↔ (s.port p).state = .blocked

/-! ## History (R139) -/

/-- Sequence numbers consecutive modulo 65 536, up to the one before `next`. -/
def seqsBefore (next : Nat) : List Nat → Prop
  | [] => True
  | newest :: older => next16 newest = next ∧ seqsBefore newest older

/-- At most sixteen records, newest last, with consecutive sequence numbers. -/
structure HistoryLaw (s : State) : Prop where
  count : s.history.length ≤ historyLimit
  next  : s.nextSeq < 65536
  seqs  : seqsBefore s.nextSeq (s.history.reverse.map HistoryRecord.seq)

/-! ## Outputs (R90, R92, R95) -/

/-- The current step of a header in STEPPING, with the elapsed time. -/
def Header.current : Header → Option (Step × Nat)
  | .stepping w r => (w.stepAt r.step).map fun st => (st, r.elapsed)
  | .calling _ | .gated _ _ _ | .holding _ _ _ | .aborting _ _ _ | .offline | .idle | .runon | .settling _ _ => none

/-- The outputs are the pattern of the current step in STEPPING, and all OFF in every other header state. -/
structure OutputLaw (s : State) : Prop where
  stepping : ∀ w r, s.header = .stepping w r → s.header.current.isSome = true
  pattern  : ∀ st e, s.header.current = some (st, e) → s.outputs = st.pattern e
  others   : s.header.current = none → s.outputs = Lines.allOff

/-! ## STORE (R168) -/

/-- While a STORE is in flight the image is INVALID. -/
def StoreLaw (s : State) : Prop := s.storing.isSome = true → s.image.valid = false

end Sys2Proof.Machine
end

