-- ==== Sys2Proof/Certificates/Slice0/Obligations.lean ====
section
/-! DEFINITION. The statements for the provers. Wherever a statement speaks of a state that is Settled or Ready, the premises
are those of Sys2Proof/Safety.lean; g stands for the state after the good frame that carried the request. -/

section

open Sys2Proof Sys2Proof.Machine

/-! ## Steps -/

/-- A step with a command at the front of the queue is that command on the state with the queue's rest (log 1). -/
def Obligations.StepRunsTheFrontCommand : Prop :=
  ∀ (c : Instr) (rest : List Instr) (s : State), s.pending = c :: rest → step s = exec c { s with pending := rest }

/-- On an empty queue a settled part takes the first event that is due, and where none is due 10 ms pass: the model's choice (log 1,
log 5). At the end of a second the clock advances by one, and after its last second takes a free value (log 12: the model's
choice). That the tick opens the second's accrual for BASIN_ACCRUAL to take is the model's reading of R113 and R114 (log 14), and
that a second which brings the step to its mark or its end sets secondDue and leaves elapsed is the model's (log 13); every other
second of STEPPING is counted (R74). While the image load runs, 10 ms pass, and the fifth ends it with a free verdict (log 7: the
model's choice). -/
def Obligations.AnEmptyQueueLetsTimePass : Prop :=
  ∀ s : State, s.pending = [] →
    (∀ n, s.phase = .loading n →
      (n < 4 → step s = .next { s with hundredth := s.hundredth + 1, phase := .loading (n + 1) }) ∧
      (4 ≤ n → ∃ intact, step s =
        exec (.imageLoadComplete intact) { s with hundredth := s.hundredth + 1, draws := s.draws + 1 })) ∧
    (Settled s → ∀ e, s.nextDue = some e → step s = .next (e s)) ∧
    (Settled s → s.nextDue = none → s.hundredth < 99 →
      step s = .next { s with
        hundredth := s.hundredth + 1
        inputs := s.inputs.map fun x => { x with run := x.run + 1 }
        storing := s.storing.map fun w => { w with age := w.age + 1 } }) ∧
    (Settled s → s.nextDue = none → s.hundredth = 99 → ∃ t, step s = .next t ∧
      (s.clock < 4294967295 → t.clock = s.clock + 1 ∧ t.draws = s.draws) ∧
      (4294967295 ≤ s.clock → t.clock < 4294967296) ∧
      t.hundredth = 0 ∧
      t.inputs = s.inputs.map (fun x => { x with run := x.run + 1 }) ∧
      t.storing = s.storing.map (fun w => { w with age := w.age + 1 }) ∧
      t.accrual = some ⟨s.pumpFlow, if s.asserted .returnRun = true then s.plant.returnRate else 0, false, false⟩ ∧
      (∀ w r st, s.header = .stepping w r → w.stepAt r.step = some st →
        t.header = .stepping w (if r.elapsed + 1 < st.duration ∧ r.elapsed + 1 ≠ st.mark
          then { r with elapsed := r.elapsed + 1 } else { r with secondDue := true })) ∧
      (s.header.current = none → t.header = s.header) ∧
      { t with
        clock := s.clock
        draws := s.draws
        hundredth := s.hundredth
        accrual := s.accrual
        header := s.header
        inputs := s.inputs
        storing := s.storing } = s)

/-- What follows at once is outstanding only once, and a command that is no start of the part, no take of a switch and no gap
expiry acts as it does on the state after it (log 3: the model's choice). -/
def Obligations.CommandsFollowWhatComesAtOnce : Prop :=
  ∀ s : State, s.phase = .running →
    s.atOnce.atOnce = s.atOnce ∧
    ∀ c : Instr, (∀ a b, c ≠ .reset a b) → (∀ a, c ≠ .imageLoadComplete a) → c ≠ .switchTake → c ≠ .gapExpiry →
      exec c s = exec c s.atOnce

/-- Every command answers a next state: nothing stops the part (log 2). -/
def Obligations.EveryCommandAnswersANextState : Prop := ∀ (c : Instr) (s : State), ∃ t, exec c s = .next t

/-! ## Start (R165, R166) -/

/-- RESET: clock 0, straps read, outputs OFF, ports and claims afresh, the image INVALID where a STORE was in flight. The
model's choice is that the raw levels and the waiting commands survive (log 22), that an INVALID image keeps its content (log 21),
and, in Port.start, that the time of the last good frame is 0 (log 11) and no frame stands on the transmit line (log 24). -/
def Obligations.ResetBeginsTheLoad : Prop :=
  ∀ (rate0 rate1 : Bool) (s : State), ∃ t, exec (.reset rate0 rate1) s = .next t ∧
    t.phase = .loading 0 ∧ t.clock = 0 ∧ t.hundredth = 0 ∧ t.rate = BitRate.ofStraps rate0 rate1 ∧
    t.outputs = Lines.allOff ∧ t.pumpPair = .resting ∧ t.blowerPair = .resting ∧
    (∀ i, t.asserted i = false ∧ (t.inputs.get i).high = (s.inputs.get i).high) ∧
    (∀ p, t.port p = Port.start) ∧ t.queue = [] ∧ t.holder = none ∧ t.budget = 0 ∧ t.hold = none ∧
    (∀ p, t.holdFlags.get p = false) ∧ t.header.wash = none ∧ t.active = .normal ∧ t.lock = none ∧ t.switch = none ∧
    t.history = [] ∧ t.nextSeq = 0 ∧ t.storing = none ∧ t.image.content = s.image.content ∧
    (t.image.valid = true ↔ s.image.valid = true ∧ s.storing = none) ∧ t.pending = s.pending

/-- The load completes: the image's content where it is valid, else the defaults; every block in its start-up state; IDLE or
OFFLINE by the validity of NORMAL. In Port.start the last good frame at 0 (log 11) and the absent transmit frame (log 24) are the
model's choice. -/
def Obligations.TheLoadSetsTheStartUpState : Prop :=
  ∀ (intact : Bool) (s : State) (n : Nat), s.phase = .loading n →
    ∃ t c, exec (.imageLoadComplete intact) s = .next t ∧
      c = (if s.image.valid = true ∧ intact = true then s.image.content else Content.default) ∧
      t.phase = .running ∧ t.clock = s.clock ∧ t.normal = c.normal ∧ t.storm = c.storm ∧ t.plant = c.plant ∧
      t.active = .normal ∧ (∀ f, t.filter f = (c.assignments.get f).map Filter.fresh) ∧ t.inServiceCount = 0 ∧
      t.volume = c.plant.capacity ∧ t.queue = [] ∧ t.holder = none ∧ t.budget = 0 ∧ t.hold = none ∧ t.lock = none ∧
      t.switch = none ∧ t.storing = none ∧ t.history = [] ∧ t.nextSeq = 0 ∧ t.outputs = Lines.allOff ∧
      t.pumpPair = .resting ∧ t.blowerPair = .resting ∧ (∀ i, t.asserted i = false) ∧ (∀ p, t.port p = Port.start) ∧
      t.image = s.image ∧ t.header = if t.validBank .normal = true then .idle else .offline

/-! ## Ports (R148 to R157) -/

/-- A good frame: bad count 0, the time of the last good frame, HUNTING; a QUIET port becomes ATTACHED and PEER goes to the
other attached ports; nothing else changes. -/
def Obligations.AGoodFrameCountsForThePort : Prop :=
  ∀ (s : State) (p : PortNo),
    (s.goodFrame p).port p =
      { s.port p with
        state := if (s.port p).state = .quiet then .attached else (s.port p).state
        badCount := 0, lastGood := s.clock, receiver := .hunting } ∧
    (∀ i, i ≠ p → (s.goodFrame p).port i =
      if (s.port p).state = .quiet ∧ (s.port i).state.isAttached = true then (s.port i).post (.peer p .attached)
      else s.port i) ∧
    { s.goodFrame p with ports := s.ports } = s

/-- ATTACH from DETACHED or LOST: the port is ATTACHED under the name, its mask all unmasked, RECONCILE posted where it owns
UNKNOWN filters, PEER to the other attached ports, the reply port and revision. In ATTACHED or QUIET it replaces the name and
changes no mask and no latch of the port (R156). -/
def Obligations.AttachSetsThePort : Prop :=
  (∀ (s : State) (p : PortNo) (tag revision : Nat) (name : List Nat), Ready s p → attachForm revision name = true →
    exec (.attach p tag revision name) s =
      .next (((s.goodFrame p).setPort p { (s.goodFrame p).port p with name := some name }).answered p 1 tag
        (.accepted (.attach p)))) ∧
  ∀ (s : State) (p : PortNo) (tag revision : Nat) (name : List Nat), Settled s →
    ((s.port p).state = .detached ∨ (s.port p).state = .lost) → (s.port p).receiver ≠ .resync →
    (s.port p).replies.length < replyLimit → attachForm revision name = true →
    ∃ t, exec (.attach p tag revision name) s = .next t ∧ { t with ports := s.ports } = s ∧
      t.port p = { s.port p with
        state := .attached, name := some name, badCount := 0, lastGood := s.clock, receiver := .hunting, mask := 0
        latches := if 0 < s.unknownCount p then (s.port p).latches.post (.reconcile (s.unknownCount p))
                   else (s.port p).latches
        replies := (s.port p).replies ++ [⟨1, tag, .accepted (.attach p)⟩] } ∧
      ∀ i, i ≠ p → t.port i =
        if (s.port i).state.isAttached = true then (s.port i).post (.peer p .attached) else s.port i

/-- DETACH: DETACHED without name, latches cleared, the port's lock, hold and flag gone, PEER to the other attached ports; a call of
the port's filter ends, DUE under its original queue time (R68), and its wash aborts with STATION_LOST (R81, R157). -/
def Obligations.DetachTakesTheStationOff : Prop :=
  (∀ (s : State) (p : PortNo) (tag : Nat) (w : Wash) (r : Filter) (d : Due) (start : Int), Ready s p → s.header = .calling w →
    w.owner = p → s.filter w.filter = some r → r.service = .called d start → s.runTimeOver start = false →
    ∃ t, exec (.detach p tag) s = .next t ∧ t.header = .idle ∧ t.history = s.history ∧
      t.filter w.filter = some { r with service := .due d start } ∧ w.filter ∈ t.queue) ∧
  (∀ (s : State) (p : PortNo) (tag : Nat) (w : Wash), Ready s p → s.header.washing = some w → w.owner = p →
    ∃ t, ∃ h : HistoryRecord, exec (.detach p tag) s = .next t ∧ t.history = pushRecord s.history h ∧
      h.filter = w.filter ∧ h.cause = some .stationLost ∧ h.outcome = w.abortOutcome ∧ t.header.washing = none) ∧
  ∀ (s : State) (p : PortNo) (tag : Nat), Settled s → ((s.port p).state.isAttached = true ∨ (s.port p).state = .lost) →
    (s.port p).receiver ≠ .resync → (s.port p).replies.length < replyLimit →
    ∃ t, exec (.detach p tag) s = .next t ∧ (t.port p).state = .detached ∧ (t.port p).name = none ∧
      (t.port p).latches = Latches.clear ∧ (t.port p).mask = (s.port p).mask ∧
      (t.port p).replies = (s.port p).replies ++ [⟨2, tag, .accepted .none⟩] ∧
      ((s.port p).state.isAttached = true →
        (∀ l, t.lock = some l → l.holder ≠ p) ∧ (∀ h, t.hold = some h → h.port ≠ p) ∧ t.holdFlags.get p = false) ∧
      t.holder = s.holder ∧ t.budget = s.budget ∧
      (∀ i, i ≠ p → (s.port i).state.isAttached = true → (t.port i).latches.peer = some (p, .detached)) ∧
      ((s.port p).state = .lost → { t with ports := s.ports } = s)

/-- QUIET_EXPIRY and LOST_EXPIRY: an ATTACHED port silent for the quiet time is QUIET, a QUIET one silent for the lost time
is LOST with the leaving effects; the other attached ports hear of it. -/
def Obligations.SilenceMovesAPort : Prop :=
  ∀ (s : State) (p : PortNo), Settled s →
    ((s.port p).state = .attached → s.plant.quietTime ≤ s.clock - (s.port p).lastGood →
      ∃ t, exec (.quietExpiry p) s = .next t ∧ { t with ports := s.ports } = s ∧
        t.port p = { s.port p with state := .quiet } ∧
        ∀ i, i ≠ p → t.port i =
          if (s.port i).state.isAttached = true then (s.port i).post (.peer p .quiet) else s.port i) ∧
    ((s.port p).state = .quiet → s.plant.lostTime ≤ s.clock - (s.port p).lastGood →
      exec (.lostExpiry p) s = .next (s.losePort p .lost))

/-- What a port that leaves ATTACHED or QUIET loses: the lock, the hold, the flag; not the tenure (R57, R127, R157); the call of
its filter ends, DUE under its original queue time with the lapse count unchanged (R68), and its wash aborts (R81). -/
def Obligations.LeavingDropsThePortsClaims : Prop :=
  (∀ (s : State) (p : PortNo) (st : PortState) (w : Wash) (r : Filter) (d : Due) (start : Int),
    (s.port p).state.isAttached = true → s.header = .calling w → w.owner = p → s.filter w.filter = some r →
    r.service = .called d start → s.runTimeOver start = false →
    (s.losePort p st).header = .idle ∧
    (s.losePort p st).filter w.filter = some { r with service := .due d start } ∧
    (s.losePort p st).history = s.history) ∧
  (∀ (s : State) (p : PortNo) (st : PortState) (w : Wash), (s.port p).state.isAttached = true →
    s.header.washing = some w → w.owner = p →
    ∃ h : HistoryRecord, (s.losePort p st).history = pushRecord s.history h ∧ h.filter = w.filter ∧
      h.cause = some .stationLost ∧ h.outcome = w.abortOutcome) ∧
  ∀ (s : State) (p : PortNo) (st : PortState), (s.port p).state.isAttached = true →
    ((s.losePort p st).port p).state = st ∧ (∀ l, (s.losePort p st).lock = some l → l.holder ≠ p) ∧
    (∀ h, (s.losePort p st).hold = some h → h.port ≠ p) ∧ (s.losePort p st).holdFlags.get p = false ∧
    (s.losePort p st).holder = s.holder ∧ (s.losePort p st).budget = s.budget ∧
    (s.losePort p st).switch = s.switch ∧ (s.losePort p st).volume = s.volume ∧
    ∀ i, i ≠ p → (s.port i).state.isAttached = true → ((s.losePort p st).port i).latches.peer = some (p, st)

/-- FRAME_DISCARD and CHARACTER_GAP_TIMEOUT in FRAMING: the count rises and the receiver resynchronises; at the eighth in a row
the port is BLOCKED, with the leaving effects of R157 where it was ATTACHED or QUIET, and PEER to the other attached ports (R149,
R150, R154). That the receive state of a BLOCKED port is held as RESYNC is the model's choice (log 20). RESYNC_IDLE returns a
receiver to HUNTING (R149). LINE_BREAK takes a BLOCKED port to DETACHED, its name and count gone, its latches, mask and replies kept
(R150, R164); in FRAMING it is a damaged character. -/
def Obligations.DamagedFramesAndLineBreaks : Prop :=
  (∀ (s : State) (p : PortNo) (cause : DiscardCause) (got : List Byte), Settled s → (s.port p).state ≠ .blocked →
    (s.port p).receiver = .framing got →
    ((s.port p).badCount < 7 →
      exec (.frameDiscard p cause) s =
        .next (s.setPort p { s.port p with badCount := (s.port p).badCount + 1, receiver := .resync }) ∧
      exec (.characterGapTimeout p) s =
        .next (s.setPort p { s.port p with badCount := (s.port p).badCount + 1, receiver := .resync })) ∧
    ((s.port p).badCount = 7 → ∃ t, exec (.frameDiscard p cause) s = .next t ∧
      exec (.characterGapTimeout p) s = .next t ∧
      t = (s.setPort p { s.port p with badCount := 8, receiver := .resync }).losePort p .blocked ∧
      (t.port p).state = .blocked ∧ (t.port p).badCount = 8 ∧ (t.port p).replies = (s.port p).replies ∧
      (t.port p).mask = (s.port p).mask ∧
      (∀ i, i ≠ p → (s.port i).state.isAttached = true → (t.port i).latches.peer = some (p, .blocked)) ∧
      ((s.port p).state.isAttached = true → (∀ l, t.lock = some l → l.holder ≠ p) ∧
        (∀ h, t.hold = some h → h.port ≠ p) ∧ t.holdFlags.get p = false ∧ t.holder = s.holder ∧
        (∀ w, s.header.washing = some w → w.owner = p → ∃ h : HistoryRecord, t.history = pushRecord s.history h ∧
          h.filter = w.filter ∧ h.cause = some .stationLost)) ∧
      ((s.port p).state.isAttached = false → { t with ports := s.ports } = s))) ∧
  ∀ (s : State) (p : PortNo), Settled s →
    ((s.port p).state ≠ .blocked → (s.port p).receiver = .resync →
      exec (.resyncIdle p) s = .next (s.setPort p { s.port p with receiver := .hunting })) ∧
    ((s.port p).state = .blocked → ∃ t, exec (.lineBreak p) s = .next t ∧ { t with ports := s.ports } = s ∧
      t.port p = { s.port p with state := .detached, badCount := 0, name := none, receiver := .resync } ∧
      ∀ i, i ≠ p → t.port i =
        if (s.port i).state.isAttached = true then (s.port i).post (.peer p .detached) else s.port i) ∧
    ((s.port p).state ≠ .blocked → exec (.lineBreak p) s = exec (.frameDiscard p .stopBit) s)

/-- A good frame while four replies wait counts as a good frame and nothing else, whatever request it carries (R151). REPLY_SENT: the
oldest reply leaves; that its frame is held as the transmit line's is the model's choice (log 24). -/
def Obligations.FullReplyQueueAndReplySent : Prop :=
  ∀ (s : State) (p : PortNo), Settled s →
    (s.takesFrame p = true → replyLimit ≤ (s.port p).replies.length →
      (∀ i telegram, encodeRequest i = some (p, telegram) → exec i s = .next (s.goodFrame p)) ∧
      ∀ tag kind view, unknownRequest kind view = true →
        exec (.unknownRequestKind p tag kind view) s = .next (s.goodFrame p)) ∧
    (s.takesFrame p = true → replyLimit ≤ (s.port p).replies.length →
      exec (.requestDiscardedQueueFull p) s = .next (s.goodFrame p)) ∧
    (∀ r rest, (s.port p).replies = r :: rest →
      exec (.replySent p) s = .next (s.setPort p { s.port p with replies := rest, txFrame := some r.frame }))

/-- START_BYTE_RECEIVED: hunting skips all but 0xA5, which starts a frame; a character that leaves the frame unfinished is
gathered; the one that completes a good frame has the event of the command the frame spells (R148, R152). -/
def Obligations.CharactersMakeFrames : Prop :=
  ∀ (s : State) (p : PortNo) (byte : Byte), Settled s → (s.port p).state ≠ .blocked →
    ((s.port p).receiver = .hunting →
      exec (.startByteReceived p byte) s =
        .next (if byte = 0xA5#8 then s.setPort p { s.port p with receiver := .framing [] } else s)) ∧
    (∀ got, (s.port p).receiver = .framing got → gather (got ++ [byte]) = .more →
      exec (.startByteReceived p byte) s = .next (s.setPort p { s.port p with receiver := .framing (got ++ [byte]) })) ∧
    (∀ got, (s.port p).receiver = .framing got → gather (got ++ [byte]) = .badLength ∨ gather (got ++ [byte]) = .badCrc →
      exec (.startByteReceived p byte) s = exec (.frameDiscard p .crcMismatch) s) ∧
    (∀ got kind tag body, (s.port p).receiver = .framing got → gather (got ++ [byte]) = .good kind tag body →
      (∀ i, decodeRequest p kind tag body = .command i →
        ((encodeRequest i).isSome = true ∨ ∃ n k v, i = .unknownRequestKind p n k v) →
        exec (.startByteReceived p byte) s = exec i s) ∧
      (decodeRequest p kind tag body = .unknown →
        exec (.startByteReceived p byte) s = exec (.unknownRequestKind p tag.toNat kind.toNat 0) s) ∧
      (decodeRequest p kind tag body = .badForm → (s.port p).replies.length < replyLimit →
        exec (.startByteReceived p byte) s =
          .next ((s.goodFrame p).answered p kind.toNat tag.toNat (.refused
            (if (s.port p).state.isAttached = true ∨ kind = 1#8 ∨ ((s.port p).state = .lost ∧ kind = 2#8) then .badFormat
            else .notAttached)))) ∧
      (decodeRequest p kind tag body = .badForm → replyLimit ≤ (s.port p).replies.length →
        exec (.startByteReceived p byte) s = .next (s.goodFrame p))) ∧
    ((s.port p).receiver = .resync → exec (.startByteReceived p byte) s = .next s)

/-- The refusals that the port gives of itself (R152, R153): an unknown kind BAD_FORMAT in every port state; any kind but ATTACH at a
DETACHED port, and any but ATTACH and DETACH at a LOST one, NOT_ATTACHED; an unknown view, and a bad ATTACH name or revision,
BAD_FORMAT; a filter that is none or absent BAD_FILTER, and another port's NOT_OWNER. The good frame alone has counted. -/
def Obligations.ThePortRefusesOfItself : Prop :=
  ∀ (s : State) (p : PortNo) (tag : Nat), Hears s p →
    (∀ kind view, kind = 0 ∨ 27 < kind →
      exec (.unknownRequestKind p tag kind view) s =
        .next ((s.goodFrame p).answered p kind tag (.refused .badFormat))) ∧
    (∀ view, view = 0 ∨ 11 < view →
      exec (.unknownRequestKind p tag 3 view) s =
        .next ((s.goodFrame p).answered p 3 tag
          (.refused (if (s.port p).state.isAttached = true then .badFormat else .notAttached)))) ∧
    (∀ i telegram, encodeRequest i = some (p, telegram) →
      ((s.port p).state = .detached ∧ telegram.kind ≠ 1) ∨
        ((s.port p).state = .lost ∧ telegram.kind ≠ 1 ∧ telegram.kind ≠ 2) →
      exec i s = .next ((s.goodFrame p).answered p telegram.kind telegram.tag (.refused .notAttached))) ∧
    (∀ revision name, revision ≠ 1 ∨ name = [] ∨ 16 < name.length ∨ (∃ c ∈ name, c < 32 ∨ 126 < c) →
      exec (.attach p tag revision name) s = .next ((s.goodFrame p).answered p 1 tag (.refused .badFormat))) ∧
    (∀ i telegram n, (s.port p).state.isAttached = true → encodeRequest i = some (p, telegram) → ownedFilter i = some n →
      ((∀ f, filterOf n = some f → s.filter f = none) →
        exec i s = .next ((s.goodFrame p).answered p telegram.kind telegram.tag (.refused .badFilter))) ∧
      (∀ f r, filterOf n = some f → s.filter f = some r → r.owner ≠ p →
        exec i s = .next ((s.goodFrame p).answered p telegram.kind telegram.tag (.refused .notOwner))))

/-- R162: a port's attention line is asserted exactly when it has a pending latch whose class is unmasked, in every port state;
a masked latch that becomes pending does not assert it, and under a mask of all ten classes it stays deasserted. -/
def Obligations.TheAttentionLineShowsUnmaskedLatches : Prop :=
  (∀ q : Port, q.attentionLine = true ↔ ∃ c, q.latches.isPending c = true ∧ masked q.mask c = false) ∧
  (∀ (q : Port) (st : PortState), { q with state := st }.attentionLine = q.attentionLine) ∧
  (∀ (q : Port) (c : NoticeClass) (n : Notice), masked q.mask c = true →
    (∀ d, d ≠ c → (q.latches.post n).notice d = q.latches.notice d) →
    (q.post n).attentionLine = q.attentionLine) ∧
  (∀ (q : Port) (c : NoticeClass) (m : BitVec 10), q.latches.isPending c = true → masked m c = false →
    { q with mask := m }.attentionLine = true) ∧
  (∀ (q : Port) (n : Notice), q.mask = BitVec.allOnes 10 → (q.post n).attentionLine = false)

/-- ATTENTION: the mask, if carried, replaces the port's; the unmasked pending class of highest priority is answered and cleared;
where none is, the answer is NONE; the reply carries the mask and the classes still pending (R163). A mask with one of bits 10 to
15 set is refused BAD_FORMAT (R174). -/
def Obligations.AttentionFetchesTheHighestClass : Prop :=
  (∀ (s : State) (p : PortNo) (tag k : Nat), Ready s p → 1024 ≤ k → exec (.attention p tag (some k)) s =
    .next ((s.goodFrame p).answered p 4 tag (.refused .badFormat))) ∧
  ∀ (s : State) (p : PortNo) (tag : Nat) (mask : Option Nat) (m : BitVec 10), Ready s p →
    (∀ k, mask = some k → k < 1024 ∧ m = BitVec.ofNat 10 k) → (mask = none → m = (s.port p).mask) →
    (∀ c, (s.port p).latches.isPending c = true → masked m c = false →
      (∀ d, d.bit < c.bit → (s.port p).latches.isPending d = true → masked m d = true) →
      exec (.attention p tag mask) s =
        .next (((s.goodFrame p).setPort p { (s.goodFrame p).port p with
            mask := m, latches := (s.port p).latches.clearClass c }).answered p 4 tag
          (.accepted (.attention ((s.port p).latches.notice c) m ((s.port p).latches.clearClass c).pendingSet)))) ∧
    ((∀ c, (s.port p).latches.isPending c = true → masked m c = true) →
      exec (.attention p tag mask) s =
        .next (((s.goodFrame p).setPort p { (s.goodFrame p).port p with mask := m }).answered p 4 tag
          (.accepted (.attention none m (s.port p).latches.pendingSet))))

/-! ## Reads (R142) -/

/-- Each of the eleven READ views is answered with its owning block's state, and leaves that state (R142): the timer remaining of the
HEADER view is the limit less the seconds since the start (R143), the BASIN view gives headroom and planned volumes (R120), the
PORTS view the eligible entries of each port (R42, R144). -/
def Obligations.EveryReadAnswersItsView : Prop :=
  ∀ (s : State) (p : PortNo) (tag : Nat), Ready s p →
    (∀ n f, filterOf n = some f → exec (.readFilter p tag n) s =
      .next ((s.goodFrame p).answered p 3 tag (.accepted (.filter f (s.filter f))))) ∧
    (∀ k, k ≤ 31 → exec (.readQueue p tag k) s =
      .next ((s.goodFrame p).answered p 3 tag
        (.accepted (.queue s.queue.length k (((s.queue.drop k).take 8).filterMap (s.goodFrame p).queueLine))))) ∧
    (∀ f r d start, s.filter f = some r → r.service = .due d start → (s.goodFrame p).queueLine f =
      some ⟨f, r.owner, d.cls, d.queueTime, decide (((s.goodFrame p).port r.owner).state = .attached)⟩) ∧
    (∃ v : HeaderView, exec (.readHeader p tag) s = .next ((s.goodFrame p).answered p 3 tag (.accepted (.header v))) ∧
      v.header = s.header ∧ v.active = s.active ∧ v.outputs = s.outputs ∧ v.pump = s.pumpPair ∧ v.blower = s.blowerPair ∧
      (∀ i, v.inputs.get i = s.asserted i) ∧ v.holder = s.holder ∧ v.budget = s.budget ∧ v.hold = s.hold ∧
      v.holdFlags = s.holdFlags ∧
      v.remaining =
        match s.header with
        | .calling w => some ((s.bank w.bank).callWindow - (s.clock - w.selectionTime))
        | .gated w _ since => some ((s.bank w.bank).gateWindow - (s.clock - since))
        | .holding w _ since => some ((s.bank w.bank).tripHoldLimit - (s.clock - since))
        | .settling since taken => some (if taken = true then 0 else s.activeBank.headerGap - (s.clock - since))
        | .stepping _ _ | .aborting _ _ _ | .offline | .idle | .runon => none) ∧
    (exec (.readBasin p tag) s = .next ((s.goodFrame p).answered p 3 tag (.accepted (.basin
      ⟨s.volume, s.plant.capacity, s.plant.capacity - s.volume, s.plant.returnRate, s.asserted .basinHigh,
        s.asserted .basinEmpty, s.asserted .returnRun, (s.activeBank.recipeA.map fun st => st.flow * st.pumpSeconds).sum,
        (s.activeBank.recipeB.map fun st => st.flow * st.pumpSeconds).sum, s.header.wash.map Wash.volumeAdded⟩)))) ∧
    (∀ b k bank item, bankOf b = some bank → itemOf k = some item → exec (.readPolicy p tag b k) s =
      .next ((s.goodFrame p).answered p 3 tag (.accepted (.policy bank item ((s.bank bank).item item))))) ∧
    (∀ b l k bank letter, bankOf b = some bank → letterOf l = some letter → 1 ≤ k → k ≤ 8 →
      exec (.readRecipe p tag b l k) s =
        .next ((s.goodFrame p).answered p 3 tag (.accepted (.recipe bank letter k
          ((s.bank bank).recipe letter).length ((s.bank bank).recipe letter)[k - 1]?)))) ∧
    (∀ k j x, settingOf k j = some x → exec (.readPlant p tag k j) s =
      .next ((s.goodFrame p).answered p 3 tag (.accepted (.plant x (s.plant.value x))))) ∧
    (∀ n f, filterOf n = some f → exec (.readAssign p tag n) s =
      .next ((s.goodFrame p).answered p 3 tag (.accepted (.assign f (s.assignment f))))) ∧
    (∀ k (h : k < s.history.length), exec (.readHistory p tag k) s =
      .next ((s.goodFrame p).answered p 3 tag
        (.accepted (.history s.history.length (s.history[s.history.length - 1 - k]'(by omega)))))) ∧
    (∀ k q, portOf k = some q → ∃ v : PortsView,
      exec (.readPorts p tag k) s = .next ((s.goodFrame p).answered p 3 tag (.accepted (.ports v))) ∧
      v.sender = p ∧ v.named = q ∧ v.name = (s.port q).name ∧ v.lock = s.lock ∧ v.switch = s.switch ∧
      ∀ i, v.states.get i = ((s.goodFrame p).port i).state ∧
        v.eligible.get i = if ((s.goodFrame p).port i).state = .attached
          then s.queue.countP fun f => decide ((s.filter f).map Filter.owner = some i) else 0) ∧
    (exec (.readClock p tag) s =
      .next ((s.goodFrame p).answered p 3 tag (.accepted (.clock s.clock s.nextSeq s.history.length))))

/-- The argument tests of the READ views (R142): each refuses with its own code and changes nothing. -/
def Obligations.EveryReadTestsItsArguments : Prop :=
  ∀ (s : State) (p : PortNo) (tag : Nat), Ready s p →
    (∀ n, filterOf n = none →
      exec (.readFilter p tag n) s = .next ((s.goodFrame p).answered p 3 tag (.refused .badFilter)) ∧
      exec (.readAssign p tag n) s = .next ((s.goodFrame p).answered p 3 tag (.refused .badFilter))) ∧
    (∀ k, 31 < k → exec (.readQueue p tag k) s = .next ((s.goodFrame p).answered p 3 tag (.refused .range))) ∧
    (∀ b k, bankOf b = none ∨ itemOf k = none →
      exec (.readPolicy p tag b k) s = .next ((s.goodFrame p).answered p 3 tag (.refused .range))) ∧
    (∀ b l k, bankOf b = none ∨ letterOf l = none ∨ k = 0 ∨ 8 < k →
      exec (.readRecipe p tag b l k) s = .next ((s.goodFrame p).answered p 3 tag (.refused .range))) ∧
    (∀ k j, settingOf k j = none →
      exec (.readPlant p tag k j) s = .next ((s.goodFrame p).answered p 3 tag (.refused .range))) ∧
    (∀ k, s.history.length ≤ k →
      exec (.readHistory p tag k) s = .next ((s.goodFrame p).answered p 3 tag (.refused .range))) ∧
    (∀ k, 3 < k → exec (.readPorts p tag k) s = .next ((s.goodFrame p).answered p 3 tag (.refused .range)))

/-! ## Filter Table and queue (R5 to R18, R26, R171) -/

/-- R26: class highest first, then the earlier queue time, then the lower filter number; of any two entries exactly one comes
before the other, and in a queue in this order an entry's position is the number of entries that come before it. -/
def Obligations.TheQueueOrderHasThreeKeys : Prop :=
  (∀ d f e g, keyBefore d f e g = true ↔
    e.cls.code < d.cls.code ∨ (d.cls.code = e.cls.code ∧ (d.queueTime < e.queueTime ∨
      (d.queueTime = e.queueTime ∧ numberOf f < numberOf g)))) ∧
  (∀ d f e g, f ≠ g → (keyBefore d f e g = true ↔ ¬ keyBefore e g d f = true)) ∧
  (∀ s : State, RotationLaw s → ∀ (n : Nat) (h : n < s.queue.length),
    n = s.queue.countP fun g => s.precedes g s.queue[n])

/-- CONDITION at a ready port: where every entry passes the port's tests they are all taken, in the order in which they stand; the
first entry that fails gives the code and none is taken; no entry, or more than eight, is BAD_FORMAT (R5, R152). -/
def Obligations.ConditionTakesItsEntriesInTurn : Prop :=
  (∀ (s : State) (p : PortNo) (tag : Nat) (entries : List ConditionEntry), Ready s p → entries = [] ∨ 8 < entries.length →
    exec (.condition p tag entries) s = .next ((s.goodFrame p).answered p 5 tag (.refused .badFormat))) ∧
  (∀ (s : State) (p : PortNo) (tag : Nat) (passed rest : List ConditionEntry) (e : ConditionEntry) (code : RefusalCode),
    Ready s p → (passed ++ e :: rest).length ≤ 8 →
    (∀ x ∈ passed, ∃ f r, filterOf x.filter = some f ∧ s.filter f = some r ∧ r.owner = p ∧
      x.headLoss ≤ 4000 ∧ x.turbidity ≤ 50000) →
    ((∀ f, filterOf e.filter = some f → s.filter f = none) ∧ code = .badFilter ∨
      (∃ f r, filterOf e.filter = some f ∧ s.filter f = some r ∧ r.owner ≠ p ∧ code = .notOwner) ∨
      (∃ f r, filterOf e.filter = some f ∧ s.filter f = some r ∧ r.owner = p ∧
        (4000 < e.headLoss ∨ 50000 < e.turbidity) ∧ code = .range)) →
    exec (.condition p tag (passed ++ e :: rest)) s = .next ((s.goodFrame p).answered p 5 tag (.refused code))) ∧
  ∀ (s : State) (p : PortNo) (tag : Nat) (entries : List ConditionEntry), Ready s p →
    1 ≤ entries.length → entries.length ≤ 8 →
    (∀ e ∈ entries, ∃ f r, filterOf e.filter = some f ∧ s.filter f = some r ∧ r.owner = p ∧
      e.headLoss ≤ 4000 ∧ e.turbidity ≤ 50000) →
    exec (.condition p tag entries) s =
      .next ((entries.foldl State.takeEntry (s.goodFrame p)).answered p 5 tag (.accepted .none))

/-- One entry: the figures are stored; an IN_SERVICE filter at or above a limit of the active bank enters DUE under the class its
reasons imply and the present time (R5 to R8); a DUE one gains the reasons, and where its class rises it takes the present time and
its entry moves (R9, R31). -/
def Obligations.AnEntryAtALimitMakesTheFilterDue : Prop :=
  ∀ (s : State) (e : ConditionEntry) (f : FilterNo) (r : Filter), filterOf e.filter = some f → s.filter f = some r →
    (∀ start, r.service = .inService start →
      (s.activeBank.turbidityLimit ≤ e.turbidity →
        (s.takeEntry e).filter f = some { r with
          figures := some ⟨e.headLoss, e.turbidity, s.clock⟩
          service := .due ⟨⟨s.activeBank.headLossLimit ≤ e.headLoss, true, false, none⟩, .urgent, s.clock⟩ start } ∧
        ∀ g, g ∈ (s.takeEntry e).queue ↔ g = f ∨ g ∈ s.queue) ∧
      (e.turbidity < s.activeBank.turbidityLimit → s.activeBank.headLossLimit ≤ e.headLoss →
        (s.takeEntry e).filter f = some { r with
          figures := some ⟨e.headLoss, e.turbidity, s.clock⟩
          service := .due ⟨⟨true, false, false, none⟩, .prompt, s.clock⟩ start } ∧
        ∀ g, g ∈ (s.takeEntry e).queue ↔ g = f ∨ g ∈ s.queue) ∧
      (e.turbidity < s.activeBank.turbidityLimit → e.headLoss < s.activeBank.headLossLimit →
        s.takeEntry e = s.setFilter f (some { r with figures := some ⟨e.headLoss, e.turbidity, s.clock⟩ }))) ∧
    (∀ start, r.service = .inService start →
      s.activeBank.turbidityLimit ≤ e.turbidity ∨ s.activeBank.headLossLimit ≤ e.headLoss → Requeued s (s.takeEntry e) f) ∧
    (∀ d start reasons, r.service = .due d start → d.cls = d.reasons.cls →
      reasons = { d.reasons with
        headloss := d.reasons.headloss || decide (s.activeBank.headLossLimit ≤ e.headLoss)
        turbidity := d.reasons.turbidity || decide (s.activeBank.turbidityLimit ≤ e.turbidity) } →
      (s.activeBank.turbidityLimit ≤ e.turbidity → d.cls ≠ .urgent →
        (s.takeEntry e).filter f = some { r with
          figures := some ⟨e.headLoss, e.turbidity, s.clock⟩, service := .due ⟨reasons, .urgent, s.clock⟩ start } ∧
        Requeued s (s.takeEntry e) f) ∧
      (e.turbidity < s.activeBank.turbidityLimit → s.activeBank.headLossLimit ≤ e.headLoss → d.cls = .routine →
        (s.takeEntry e).filter f = some { r with
          figures := some ⟨e.headLoss, e.turbidity, s.clock⟩, service := .due ⟨reasons, .prompt, s.clock⟩ start } ∧
        Requeued s (s.takeEntry e) f) ∧
      ((s.activeBank.turbidityLimit ≤ e.turbidity → d.cls = .urgent) →
        (s.activeBank.headLossLimit ≤ e.headLoss → d.cls ≠ .routine) →
        s.takeEntry e = s.setFilter f (some { r with
          figures := some ⟨e.headLoss, e.turbidity, s.clock⟩, service := .due { d with reasons := reasons } start }))) ∧
    ((∀ start, r.service ≠ .inService start) → (∀ d start, r.service ≠ .due d start) →
      s.takeEntry e = s.setFilter f (some { r with figures := some ⟨e.headLoss, e.turbidity, s.clock⟩ }))

/-- WASH_REQUEST: an IN_SERVICE filter enters DUE for STATION at the named class; a DUE one gains STATION or the higher station
class, and where that raises its class takes the present time and moves (R9, R12); a class that is none is refused RANGE in these
states, and in every other state the request is refused WRONG_STATE (R12). -/
def Obligations.WashRequestMakesAFilterDue : Prop :=
  ∀ (s : State) (p : PortNo) (tag n cls : Nat) (f : FilterNo) (r : Filter), Ready s p → filterOf n = some f →
    s.filter f = some r → r.owner = p →
    (∀ start c, r.service = .inService start → classOf cls = some c →
      exec (.washRequest p tag n cls) s =
        .next ((((s.goodFrame p).setFilter f
          (some { r with service := .due ⟨⟨false, false, false, some c⟩, c, s.clock⟩ start })).enqueue f).answered p 6 tag
          (.accepted .none))) ∧
    (∀ d start c, r.service = .due d start → classOf cls = some c →
      ∃ t d', exec (.washRequest p tag n cls) s = .next t ∧ t.filter f = some { r with service := .due d' start } ∧
        d'.reasons = { d.reasons with station := some ((d.reasons.station.getD c).max c) } ∧
        (d'.cls.code ≤ d.cls.code → d'.queueTime = d.queueTime ∧ t.queue = s.queue) ∧
        (d.cls.code < d'.cls.code → d'.queueTime = s.clock) ∧
        (d.cls = d.reasons.cls → d'.cls = if d.cls.code < c.code then c else d.cls) ∧
        (d.cls = d.reasons.cls → d.cls.code < c.code → Requeued s t f) ∧
        (t.port p).replies = (s.port p).replies ++ [⟨6, tag, .accepted .none⟩]) ∧
    ((∃ start, r.service = .inService start) ∨ (∃ d start, r.service = .due d start) → classOf cls = none →
      exec (.washRequest p tag n cls) s = .next ((s.goodFrame p).answered p 6 tag (.refused .range))) ∧
    ((∀ start, r.service ≠ .inService start) → (∀ d start, r.service ≠ .due d start) →
      exec (.washRequest p tag n cls) s = .next ((s.goodFrame p).answered p 6 tag (.refused .wrongState)))

/-- WITHDRAW: a DUE filter is IN_SERVICE again and its entry gone; where its run time has reached the limit it is at once DUE for
RUNTIME alone, at ROUTINE and the present time; in every other state the request is refused WRONG_STATE (R13). -/
def Obligations.WithdrawReturnsADueFilter : Prop :=
  (∀ (s : State) (p : PortNo) (tag n : Nat) (f : FilterNo) (r : Filter), Ready s p → filterOf n = some f →
    s.filter f = some r → r.owner = p → (∀ d start, r.service ≠ .due d start) →
    exec (.withdraw p tag n) s = .next ((s.goodFrame p).answered p 7 tag (.refused .wrongState))) ∧
  ∀ (s : State) (p : PortNo) (tag n : Nat) (f : FilterNo) (r : Filter) (d : Due) (start : Int), Ready s p →
    filterOf n = some f → s.filter f = some r → r.owner = p → r.service = .due d start →
    (s.runTimeOver start = false → exec (.withdraw p tag n) s =
      .next ((((s.goodFrame p).setFilter f (some { r with service := .inService start })).dequeue f).answered p 7 tag
        (.accepted .none))) ∧
    (s.runTimeOver start = true → ∃ t, exec (.withdraw p tag n) s = .next t ∧
      t.filter f = some { r with service := .due ⟨⟨false, false, true, none⟩, .routine, s.clock⟩ start } ∧ f ∈ t.queue)

/-- HOLD_OUT from IN_SERVICE or DUE: accepted when forced or above the floor, refused FLOOR otherwise; from RIPENING or UNKNOWN
without a floor test; the filter is HELD_OUT and its entry gone; from CALLED, WASHING and HELD_OUT refused WRONG_STATE (R14). -/
def Obligations.HoldOutTestsTheFloor : Prop :=
  ∀ (s : State) (p : PortNo) (tag n forced : Nat) (f : FilterNo) (r : Filter), Ready s p →
    filterOf n = some f → s.filter f = some r → r.owner = p →
    ((r.service.inCount = true ∧ (forced ≠ 0 ∨ s.activeBank.floor + 1 ≤ s.inServiceCount)) ∨ r.service = .unknown ∨
        (∃ start, r.service = .ripening start) →
      exec (.holdOut p tag n forced) s =
        .next ((((s.goodFrame p).setFilter f (some { r with
          service := .heldOut (if forced = 0 then .station else .stationForced) })).dequeue f).answered p 13 tag
          (.accepted .none))) ∧
    (r.service.inCount = true → forced = 0 → s.inServiceCount ≤ s.activeBank.floor →
      exec (.holdOut p tag n forced) s = .next ((s.goodFrame p).answered p 13 tag (.refused .floor))) ∧
    ((∃ d start, r.service = .called d start ∨ r.service = .washing d start) ∨ (∃ reason, r.service = .heldOut reason) →
      exec (.holdOut p tag n forced) s = .next ((s.goodFrame p).answered p 13 tag (.refused .wrongState)))

/-- RELEASE of a HELD_OUT filter, and RETURN of a RIPENING one with a clear figure since its ripening start, put it IN_SERVICE
from now with no lapses; RETURN without one is refused NOT_RIPE, and each in every other state WRONG_STATE (R15, R17). -/
def Obligations.ReleaseAndReturnEnterService : Prop :=
  ∀ (s : State) (p : PortNo) (tag n : Nat) (f : FilterNo) (r : Filter), Ready s p →
    filterOf n = some f → s.filter f = some r → r.owner = p →
    (∀ reason, r.service = .heldOut reason → exec (.release p tag n) s =
      .next (((s.goodFrame p).setFilter f (some { r with service := .inService s.clock, lapses := 0 })).answered p 14 tag
        (.accepted .none))) ∧
    (∀ start x, r.service = .ripening start → r.figures = some x → start ≤ x.time →
      x.turbidity < s.activeBank.returnLimit → exec (.returnFilter p tag n) s =
        .next (((s.goodFrame p).setFilter f (some { r with service := .inService s.clock, lapses := 0 })).answered p 12 tag
          (.accepted .none))) ∧
    (∀ start, r.service = .ripening start →
      (∀ x, r.figures = some x → x.time < start ∨ s.activeBank.returnLimit ≤ x.turbidity) →
      exec (.returnFilter p tag n) s = .next ((s.goodFrame p).answered p 12 tag (.refused .notRipe))) ∧
    ((∀ reason, r.service ≠ .heldOut reason) →
      exec (.release p tag n) s = .next ((s.goodFrame p).answered p 14 tag (.refused .wrongState))) ∧
    ((∀ start, r.service ≠ .ripening start) →
      exec (.returnFilter p tag n) s = .next ((s.goodFrame p).answered p 12 tag (.refused .wrongState)))

/-- RECONCILE of an UNKNOWN filter: IN_SERVICE or DUE at PROMPT from the declared hours, or HELD_OUT; where the declared run time has
reached the limit RUNTIME follows at once; hours above 240 are refused RANGE (R171; the refusal for HELD_OUT is log 19: the
model's choice), and a filter in any other state WRONG_STATE. -/
def Obligations.ReconcileDeclaresAFilter : Prop :=
  (∀ (s : State) (p : PortNo) (tag n k hours : Nat) (f : FilterNo) (r : Filter), Ready s p → filterOf n = some f →
    s.filter f = some r → r.owner = p → r.service ≠ .unknown →
    exec (.reconcile p tag n k hours) s = .next ((s.goodFrame p).answered p 15 tag (.refused .wrongState))) ∧
  ∀ (s : State) (p : PortNo) (tag n hours : Nat) (f : FilterNo) (r : Filter), Ready s p →
    filterOf n = some f → s.filter f = some r → r.owner = p → r.service = .unknown →
    (hours ≤ 240 → s.runTimeOver ((s.clock : Int) - (hours * 3600 : Nat)) = false →
      exec (.reconcile p tag n 1 hours) s =
        .next (((s.goodFrame p).setFilter f
          (some { r with service := .inService ((s.clock : Int) - (hours * 3600 : Nat)) })).answered p 15 tag
          (.accepted .none)) ∧
      exec (.reconcile p tag n 3 hours) s =
        .next ((((s.goodFrame p).setFilter f (some { r with
          service := .due ⟨⟨false, false, false, some .prompt⟩, .prompt, s.clock⟩
            ((s.clock : Int) - (hours * 3600 : Nat)) })).enqueue f).answered p 15 tag (.accepted .none))) ∧
    (hours ≤ 240 → s.runTimeOver ((s.clock : Int) - (hours * 3600 : Nat)) = true →
      (∃ t, exec (.reconcile p tag n 1 hours) s = .next t ∧ f ∈ t.queue ∧ t.filter f = some { r with
        service := .due ⟨⟨false, false, true, none⟩, .routine, s.clock⟩ ((s.clock : Int) - (hours * 3600 : Nat)) }) ∧
      ∃ t, exec (.reconcile p tag n 3 hours) s = .next t ∧ f ∈ t.queue ∧ t.filter f = some { r with
        service := .due ⟨⟨false, false, true, some .prompt⟩, .prompt, s.clock⟩
          ((s.clock : Int) - (hours * 3600 : Nat)) }) ∧
    (hours ≤ 240 → exec (.reconcile p tag n 2 hours) s =
      .next (((s.goodFrame p).setFilter f (some { r with service := .heldOut .station })).answered p 15 tag
        (.accepted .none))) ∧
    (∀ k, 240 < hours ∨ declaredOf k = none → exec (.reconcile p tag n k hours) s =
      .next ((s.goodFrame p).answered p 15 tag (.refused .range)))

/-- R172: a declared service start is the clock less the hours in seconds, down to -864 000, and the run time is measured from it
on the same scale; the manual's own figures. -/
def Obligations.ADeclaredServiceStartMayBeNegative : Prop :=
  (∀ (s : State) (hours : Nat), s.declaredStart hours = (s.clock : Int) - (hours : Int) * 3600 ∧
    (hours ≤ 240 → -864000 ≤ s.declaredStart hours)) ∧
  (∀ (s : State) (start : Int), s.runTimeOver start = true ↔
    (s.activeBank.runTimeLimit : Int) * 3600 ≤ (s.clock : Int) - start) ∧
  (∀ s : State, s.clock = 50 → s.declaredStart 30 = -107950) ∧
  (∀ s : State, s.activeBank.runTimeLimit = 72 → (s.runTimeOver (-107950) = true ↔ 151250 ≤ s.clock)) ∧
  (∀ start : Int, -864000 ≤ start → start < 0 →
    leSigned32 start = le32 (4294967296 - start.natAbs))

/-- RUN_TIME_EXPIRY makes an IN_SERVICE filter DUE at ROUTINE, or adds RUNTIME to a DUE one without moving it (R10);
RIPENING_EXPIRY holds the filter out and posts FILTER_HELD to its owner (R16). -/
def Obligations.TheFilterTimersExpire : Prop :=
  ∀ (s : State) (f : FilterNo) (r : Filter), Settled s → s.filter f = some r →
    (∀ start, r.service = .inService start → s.runTimeOver start = true → exec (.runTimeExpiry f) s =
      .next ((s.setFilter f (some { r with
        service := .due ⟨⟨false, false, true, none⟩, .routine, s.clock⟩ start })).enqueue f)) ∧
    (∀ d start, r.service = .due d start → d.cls = d.reasons.cls → d.reasons.runtime = false →
      s.runTimeOver start = true → exec (.runTimeExpiry f) s =
        .next (s.setFilter f (some { r with
          service := .due { d with reasons := { d.reasons with runtime := true } } start }))) ∧
    (∀ start, r.service = .ripening start → s.activeBank.ripeningLimit ≤ s.clock - start → exec (.ripeningExpiry f) s =
      .next ((s.setFilter f (some { r with service := .heldOut .ripenTimeout })).postTo r.owner (.filterHeld f)))

/-! ## Selection and tenure (R44 to R58) -/

/-- The candidate: under a hold the first eligible entry of its port (R45); else the tenure holder's first eligible entry of the
highest eligible class where it has budget; else the first eligible entry (R46). -/
def Obligations.TenurePrefersTheHolder : Prop :=
  ∀ (s : State) (first : FilterNo) (others : List FilterNo), s.eligibleEntries = first :: others →
    (∀ h, s.hold = some h → s.candidate = s.eligibleEntries.find? fun f => s.ownerOf f == some h.port) ∧
    (s.hold = none → ∀ p f, s.holder = some p → 0 < s.budget →
      (s.eligibleEntries.find? fun g => s.ownerOf g == some p && s.entryClass g == s.entryClass first) = some f →
      s.candidate = some f) ∧
    (s.hold = none →
      (s.holder = none ∨ s.budget = 0 ∨
        ∃ p, s.holder = some p ∧ ∀ g ∈ s.eligibleEntries, s.ownerOf g = some p → s.entryClass g ≠ s.entryClass first) →
      s.candidate = some first)

/-- SELECTION with the guard holding and a candidate that passes every constraint: the filter is CALLED and its entry gone, the
transaction is opened and the header CALLING, tenure passes or is kept with its budget, CALL is posted (R50 to R53, R63). Under a
hold the holder's filter is CALLED and the tenure state stands (R45, R52); a hold that an URGENT rival breaks is ended, and the
evaluation goes on as if it had not been in force (R45). -/
def Obligations.SelectionCallsTheCandidate : Prop :=
  (∀ (s : State) (h : Hold) (f : FilterNo) (r : Filter) (d : Due) (start : Int), s.phase = .running → s.guardHolds = true →
    s.hold = some h → s.holder = some h.port → s.rivalAt h.port .urgent = false → s.candidate = some f →
    s.filter f = some r → r.service = .due d start →
    s.activeBank.floor + 1 ≤ s.inServiceCount → plannedVolume (s.activeBank.recipe r.letter) ≤ s.plant.capacity - s.volume →
    s.asserted .headerTrip = false → s.asserted .supplyLow = false → s.asserted .basinHigh = false →
    r.owner = h.port ∧ ∃ t, exec .selection s = .next t ∧ t.filter f = some { r with service := .called d start } ∧
      t.queue = s.queue.filter (· != f) ∧
      t.header = .calling ⟨f, r.owner, s.active, r.letter, s.activeBank.recipe r.letter, 0, s.clock, false, 0, none, none⟩ ∧
      t.port r.owner = (s.port r.owner).post (.call f) ∧ (∀ i, i ≠ r.owner → t.port i = s.port i) ∧
      { t with
        filters := s.filters
        queue := s.queue
        header := s.header
        ports := s.ports } = s) ∧
  (∀ (s : State) (h : Hold), s.phase = .running → s.guardHolds = true → s.hold = some h → s.rivalAt h.port .urgent = true →
    exec .selection s = exec .selection ({ s with hold := none }.postTo h.port (.tenure .holdBroken))) ∧
  ∀ (s : State) (f : FilterNo) (r : Filter) (d : Due) (start : Int), s.phase = .running → s.guardHolds = true →
    s.hold = none → s.candidate = some f → s.filter f = some r → r.service = .due d start →
    s.activeBank.floor + 1 ≤ s.inServiceCount → plannedVolume (s.activeBank.recipe r.letter) ≤ s.plant.capacity - s.volume →
    s.asserted .headerTrip = false → s.asserted .supplyLow = false → s.asserted .basinHigh = false →
    ∃ t, exec .selection s = .next t ∧ t.filter f = some { r with service := .called d start } ∧
      t.queue = s.queue.filter (· != f) ∧
      t.header = .calling ⟨f, r.owner, s.active, r.letter, s.activeBank.recipe r.letter, 0, s.clock, false, 0, none, none⟩ ∧
      t.holder = some r.owner ∧ (t.port r.owner).latches.call = some f ∧
      (s.holder = some r.owner → t.hold = none ∧ t.holdFlags = s.holdFlags ∧
        t.budget = if s.rivalAt r.owner s.topClass = true then s.budget - 1 else s.budget) ∧
      (s.holder ≠ some r.owner → t.budget = s.activeBank.runLength - 1 ∧
        t.hold = (if s.holdFlags.get r.owner = true then some ⟨r.owner, s.clock⟩ else none) ∧
        t.holdFlags.get r.owner = false ∧
        (t.port r.owner).latches.tenure =
          some (if s.holdFlags.get r.owner = true then TenureArg.holdActive else TenureArg.gained) ∧
        ∀ old, s.holder = some old → (t.port old).latches.tenure = some .lost) ∧
      { t with
        filters := s.filters
        queue := s.queue
        header := s.header
        holder := s.holder
        budget := s.budget
        hold := s.hold
        holdFlags := s.holdFlags
        ports := s.ports } = s

/-- No selection is made while the guard does not hold (the header not IDLE, a switch pending that cannot be taken, no eligible entry),
or while the candidate fails the floor, the basin or the trips (R44, R47 to R49); an evaluation under the guard still breaks a hold
where another port has an eligible URGENT entry (R45). -/
def Obligations.NoSelectionIsMade : Prop :=
  (∀ s : State, s.phase = .running → s.header ≠ .idle ∨ s.switch ≠ none →
    (s.switch ≠ none → s.lock ≠ none ∨ s.header.wash ≠ none) →
    (∀ since taken, s.header = .settling since taken → s.activeBank.headerGap ≠ 0) →
    exec .selection s = .next s) ∧
  (∀ s : State, s.phase = .running → s.switch = none → s.header = .idle → s.hold = none →
    (s.eligibleEntries = [] ∨ s.inServiceCount ≤ s.activeBank.floor ∨
      (∀ f r, s.candidate = some f → s.filter f = some r →
        s.plant.capacity - s.volume < plannedVolume (s.activeBank.recipe r.letter)) ∨
      s.asserted .headerTrip = true ∨ s.asserted .supplyLow = true ∨ s.asserted .basinHigh = true) →
    exec .selection s = .next s) ∧
  (∀ (s : State) (h : Hold), s.phase = .running → s.guardHolds = true → s.hold = some h →
    s.rivalAt h.port .urgent = true → s.inServiceCount ≤ s.activeBank.floor →
    ∃ t, exec .selection s = .next t ∧ t.hold = none ∧ (t.port h.port).latches.tenure = some .holdBroken ∧
      { t with
        hold := s.hold
        ports := s.ports } = s)

/-- HOLD_HEADER by the sender's standing and RELEASE_HOLD (R54, R55). -/
def Obligations.HoldRequests : Prop :=
  ∀ (s : State) (p : PortNo) (tag : Nat), Ready s p →
    (s.holder = some p → s.hold = none → exec (.holdHeader p tag) s =
      .next ({ s.goodFrame p with hold := some ⟨p, s.clock⟩ }.answered p 16 tag (.accepted (.standing true)))) ∧
    (s.holder = some p → s.hold ≠ none → exec (.holdHeader p tag) s =
      .next ((s.goodFrame p).answered p 16 tag (.accepted (.standing true)))) ∧
    (s.holder ≠ some p → exec (.holdHeader p tag) s =
      .next ({ s.goodFrame p with holdFlags := s.holdFlags.set p true }.answered p 16 tag (.accepted (.standing false)))) ∧
    exec (.releaseHold p tag) s =
      .next ({ s.goodFrame p with
        hold := if (s.hold.map Hold.port) = some p then none else s.hold
        holdFlags := s.holdFlags.set p false }.answered p 17 tag (.accepted .none))

/-- HOLD_LIMIT_EXPIRY ends the hold and posts HOLD_EXPIRED (R56); LOCK_EXPIRY releases the lock 600 s after the lock time (R127);
that one commanded before is not taken is the model's choice (log 2). -/
def Obligations.HoldAndLockExpire : Prop :=
  ∀ s : State, Settled s →
    (∀ h, s.hold = some h → s.activeBank.holdLimit ≤ s.clock - h.start →
      exec .holdLimitExpiry s = .next ({ s with hold := none }.postTo h.port (.tenure .holdExpired))) ∧
    (∀ l, s.lock = some l → 600 ≤ s.clock - l.time → exec .lockExpiry s = .next { s with lock := none }) ∧
    (∀ l, s.lock = some l → s.clock - l.time < 600 → exec .lockExpiry s = .next s)

/-! ## The wash (R62 to R89) -/

/-- A change of the four drives (R90, R101, R103): a pair whose output does not change stays; OFF to ON starts a start window or,
with the feedback asserted, satisfies supervision at once; ON to OFF starts a stop window or, with the feedback deasserted,
needs none. -/
def Obligations.ADriveChangeReachesItsPair : Prop :=
  ∀ (s : State) (new : Lines) (length : Nat),
    (s.setOutputs new length).outputs = new ∧
    { s.setOutputs new length with
      outputs := s.outputs
      pumpPair := s.pumpPair
      blowerPair := s.blowerPair } = s ∧
    ∀ pair,
      (new.ofPair pair = s.outputs.ofPair pair → (s.setOutputs new length).pair pair = s.pair pair) ∧
      (s.outputs.ofPair pair = .off → new.ofPair pair = .on →
        (s.pair pair = .resting ∨ ∃ w, s.pair pair = .stopping w) →
        (s.setOutputs new length).pair pair =
          if s.asserted (feedbackOf pair) = true then .running else .starting ⟨s.clock, length⟩) ∧
      (s.outputs.ofPair pair = .on → new.ofPair pair = .off →
        (s.pair pair = .running ∨ ∃ w, s.pair pair = .starting w) →
        (s.setOutputs new length).pair pair =
          if s.asserted (feedbackOf pair) = true then .stopping ⟨s.clock, length⟩ else .resting)

/-- A step that is due waits at its gate (R70) or begins; at its begin the trip inputs decide between an abort, HOLDING and
STEPPING, where water is reached by its pump mode (R73, R77). -/
def Obligations.AStepDueWaitsOrBegins : Prop :=
  ∀ (s : State) (w : Wash) (r : Run) (st : Step) (isolation n : Nat),
    (st.gate = true → s.stepDue w isolation n st =
      ((s.setOutputs Lines.allOff (s.feedbackWindow w)).withHeader (.gated w ⟨isolation, n, 0, false⟩ s.clock)).postTo
        w.owner (.stepGate w.filter n)) ∧
    (st.gate = false → s.stepDue w isolation n st = s.beginStep w ⟨isolation, n, 0, false⟩ st) ∧
    (s.asserted .headerTrip = true → s.beginStep w r st = (s.withHeader (.stepping w r)).abort .headerTrip) ∧
    (s.asserted .headerTrip = false →
      (s.asserted .supplyLow = true ∨ s.asserted .basinHigh = true → st.response = .hold →
        s.beginStep w r st =
          (s.setOutputs Lines.allOff (s.feedbackWindow w)).withHeader (.holding w { r with secondDue := false } s.clock)) ∧
      (s.asserted .supplyLow = true → st.response = .abort →
        s.beginStep w r st = (s.withHeader (.stepping w r)).abort .supplyTrip) ∧
      (s.asserted .supplyLow = false → s.asserted .basinHigh = true → st.response = .abort →
        s.beginStep w r st = (s.withHeader (.stepping w r)).abort .basinTrip) ∧
      (s.asserted .supplyLow = false → s.asserted .basinHigh = false →
        s.beginStep w r st =
          (s.setOutputs (st.pattern r.elapsed) (s.feedbackWindow w)).withHeader
            (.stepping { w with waterReached := w.waterReached || st.pump != .off } r)))

/-- ISOLATED makes the CALLED filter WASHING and step 1 due (R65); PROCEED for the gated step begins it (R71). -/
def Obligations.IsolatedAndProceedBeginSteps : Prop :=
  ∀ (s : State) (p : PortNo) (tag n : Nat) (f : FilterNo) (x : Filter) (d : Due) (start : Int) (w : Wash), Ready s p →
    filterOf n = some f → s.filter f = some x → x.owner = p → w.filter = f →
    (∀ st, x.service = .called d start → s.header = .calling w → w.stepAt 1 = some st →
      exec (.isolated p tag n) s =
        .next ((((s.goodFrame p).setFilter f (some { x with service := .washing d start })).stepDue w s.clock 1 st).answered
          p 8 tag (.accepted .none))) ∧
    (∀ r since st, x.service = .washing d start → s.header = .gated w r since → w.stepAt r.step = some st →
      exec (.proceed p tag n r.step) s =
        .next (((s.goodFrame p).beginStep w r st).answered p 10 tag (.accepted .none))) ∧
    (∀ r since k, x.service = .washing d start → s.header = .gated w r since → k ≠ r.step →
      exec (.proceed p tag n k) s = .next ((s.goodFrame p).answered p 10 tag (.refused .wrongStep)))

/-- The requests of the wash name a filter out of place: WRONG_STATE, and nothing changes (R88). -/
def Obligations.WashRequestsOutOfPlaceAreRefused : Prop :=
  ∀ (s : State) (p : PortNo) (tag n step : Nat) (f : FilterNo) (x : Filter), Ready s p →
    filterOf n = some f → s.filter f = some x → x.owner = p →
    ((∀ d start, x.service ≠ .called d start) →
      exec (.isolated p tag n) s = .next ((s.goodFrame p).answered p 8 tag (.refused .wrongState)) ∧
      exec (.decline p tag n) s = .next ((s.goodFrame p).answered p 9 tag (.refused .wrongState))) ∧
    ((∀ d start, x.service ≠ .washing d start) →
      exec (.abandon p tag n) s = .next ((s.goodFrame p).answered p 11 tag (.refused .wrongState))) ∧
    ((∀ d start, x.service ≠ .washing d start) ∨ (∀ w r since, s.header ≠ .gated w r since) →
      exec (.proceed p tag n step) s = .next ((s.goodFrame p).answered p 10 tag (.refused .wrongState)))

/-- DECLINE returns the filter to DUE under the present time (R66); the call-window expiry returns it under its original queue time
and counts a lapse, or holds it out at the third (R67); the header is IDLE. -/
def Obligations.ACallEndsWithoutAWash : Prop :=
  ∀ (s : State) (f : FilterNo) (x : Filter) (d : Due) (start : Int) (w : Wash), Settled s → s.filter f = some x →
    x.service = .called d start → s.header = .calling w → w.filter = f →
    (∀ p tag n, Ready s p → filterOf n = some f → x.owner = p →
      (s.runTimeOver start = false → exec (.decline p tag n) s =
        .next (((((s.goodFrame p).setFilter f
          (some { x with service := .due { d with queueTime := s.clock } start })).enqueue f).withHeader .idle).answered
          p 9 tag (.accepted .none))) ∧
      (s.runTimeOver start = true → d.cls = d.reasons.cls → ∃ t, exec (.decline p tag n) s = .next t ∧
        t.header = .idle ∧ f ∈ t.queue ∧
        t.filter f = some { x with
          service := .due ⟨{ d.reasons with runtime := true }, d.cls, s.clock⟩ start })) ∧
    ((s.bank w.bank).callWindow ≤ s.clock - w.selectionTime →
      (x.lapses < 2 → s.runTimeOver start = false → exec .callWindowExpiry s =
        .next (((s.setFilter f (some { x with service := .due d start, lapses := x.lapses + 1 })).enqueue f).withHeader
          .idle)) ∧
      (2 ≤ x.lapses → exec .callWindowExpiry s =
        .next (((s.setFilter f (some { x with service := .heldOut .callLapse, lapses := x.lapses + 1 })).withHeader
          .idle).postTo w.owner (.filterHeld f))))

/-- What aborts a wash, each with its cause: ABANDON (R80), the gate expiry (R72), the trip-hold limit expiry (R79), a start window
that expires with the feedback deasserted (R102, R81). -/
def Obligations.WhatAbortsAWash : Prop :=
  ∀ (s : State) (w : Wash), Settled s →
    (∀ p tag n f x d start, Ready s p → filterOf n = some f → s.filter f = some x → x.owner = p →
      x.service = .washing d start → s.header.washing = some w → w.filter = f →
      exec (.abandon p tag n) s = .next (((s.goodFrame p).abort .abandoned).answered p 11 tag (.accepted .none))) ∧
    (∀ r since, s.header = .gated w r since → (s.bank w.bank).gateWindow ≤ s.clock - since →
      exec .gateExpiry s = .next (s.abort .gateTimeout)) ∧
    (∀ r since, s.header = .holding w r since → (s.bank w.bank).tripHoldLimit ≤ s.clock - since →
      exec .tripHoldLimitExpiry s = .next (s.abort .tripHoldLimit)) ∧
    (∀ pair x, s.header.washing = some w → s.pair pair = .starting x → x.length ≤ s.clock - x.start →
      s.asserted (feedbackOf pair) = false →
      exec (.startWindowExpiry pair) s = .next (s.abort .feedbackFault))

/-- Abort entry (R83, R84, R87, R106) with no inflow left to charge: outputs OFF, the filter's outcome by the water-reached flag,
the history record, WASH_END and HEADER_FAULT to the owner; the header waits in ABORTING for the stop windows or is SETTLING, and
with a pair OVERRUN it passes into RUNON, or on into SETTLING where both feedback lines are deasserted (R106, R107). That the level
of a RESTING pair is not waited on in ABORTING is the model's choice (log 29). An inflow not charged yet is charged first (R113). -/
def Obligations.AnAbortDecidesTheOutcome : Prop :=
  ∀ (s : State) (w : Wash) (r : Option Run) (cause : AbortCause), s.header.live = some (w, r) →
    ((∀ a, s.accrual = some a → a.charged = true) →
      ∃ t, s.abort cause = t ∧ t.outputs = Lines.allOff ∧
        t.history = pushRecord s.history ⟨s.nextSeq, w.filter, w.owner, w.bank, w.letter, w.selectionTime,
          r.map Run.isolationTime, s.clock, w.stepsCompleted, w.abortOutcome, some cause, w.volumeAdded, w.pumpDelay,
          w.blowerDelay⟩ ∧
        t.nextSeq = next16 s.nextSeq ∧ (t.port w.owner).latches.washEnd = some (w.filter, w.abortOutcome) ∧
        t.volume = s.volume ∧ t.holder = s.holder ∧ t.budget = s.budget ∧ t.hold = s.hold ∧ t.lock = s.lock ∧
        t.switch = s.switch ∧ (∀ g, g ≠ w.filter → t.filter g = s.filter g) ∧
        (s.anyOverrun = false → (t.header = if t.anyStopping = true then .aborting w r cause else .settling s.clock false) ∧
          (t.port w.owner).latches.headerFault =
            if cause = .headerTrip ∨ cause = .feedbackFault ∨ cause = .tripHoldLimit then some (.cause cause)
            else (s.port w.owner).latches.headerFault) ∧
        (s.anyOverrun = true →
          t.header = (if s.asserted .pumpRun = true ∨ s.asserted .blowerRun = true then .runon else .settling s.clock false) ∧
          (∀ i, (s.port i).state.isAttached = true → (t.port i).latches.headerFault = some .runon) ∧
          ((s.port w.owner).state.isAttached = false → (t.port w.owner).latches.headerFault =
            if cause = .headerTrip ∨ cause = .feedbackFault ∨ cause = .tripHoldLimit then some (.cause cause)
            else (s.port w.owner).latches.headerFault)) ∧
        ∀ x, s.filter w.filter = some x →
          (w.waterReached = true → t.queue = s.queue ∧ t.filter w.filter = some { x with
            service := .heldOut .washIncomplete, lastWash := some ⟨s.clock, .abortedAfterWater⟩ }) ∧
          (∀ d start, w.waterReached = false → x.service = .called d start ∨ x.service = .washing d start →
            s.runTimeOver start = false → w.filter ∈ t.queue ∧ t.filter w.filter = some { x with
              service := .due d start, lastWash := some ⟨s.clock, .abortedBeforeWater⟩ })) ∧
    (∀ a, s.accrual = some a → a.charged = false →
      s.abort cause = State.abort { s with
        header := s.header.mapWash fun v => { v with volumeAdded := v.volumeAdded + a.inflow }
        accrual := some { a with charged := true } } cause)

/-- MARK_REACHED drives the after-mark pattern (R74); STEP_END counts the step and makes the next one due, and after the last step
the filter is RIPENING, the record is written, and the header SETTLING (R75, R82); an inflow not charged yet is charged to the wash
before its record is written (R113). That MARK_REACHED and STEP_END themselves count the second that is due (secondDue, elapsed one
short until then) is the model's choice (log 13): R89 says it of the step end alone. -/
def Obligations.MarksAndStepEnds : Prop :=
  ∀ (s : State) (w : Wash) (r : Run) (st : Step), Settled s → s.header = .stepping w r → w.stepAt r.step = some st →
    r.secondDue = true →
    (r.elapsed + 1 = st.mark → st.mark < st.duration → exec .markReached s =
      .next ((s.setOutputs (st.pattern st.mark) (s.feedbackWindow w)).withHeader
        (.stepping w { r with elapsed := st.mark, secondDue := false }))) ∧
    (∀ next, st.duration ≤ r.elapsed + 1 → w.stepAt (r.step + 1) = some next → exec .stepEnd s =
      .next (s.stepDue { w with stepsCompleted := w.stepsCompleted + 1 } r.isolationTime (r.step + 1) next)) ∧
    (∀ a, st.duration ≤ r.elapsed + 1 → w.stepAt (r.step + 1) = none → s.accrual = some a → a.charged = false →
      exec .stepEnd s = exec .stepEnd { s with
        header := .stepping { w with volumeAdded := w.volumeAdded + a.inflow } r
        accrual := some { a with charged := true } }) ∧
    (st.duration ≤ r.elapsed + 1 → w.stepAt (r.step + 1) = none → (∀ a, s.accrual = some a → a.charged = true) →
      ∃ t, exec .stepEnd s = .next t ∧ t.header = .settling s.clock false ∧ t.outputs = Lines.allOff ∧
        t.history = pushRecord s.history ⟨s.nextSeq, w.filter, w.owner, w.bank, w.letter, w.selectionTime,
          some r.isolationTime, s.clock, w.stepsCompleted + 1, .complete, none, w.volumeAdded, w.pumpDelay,
          w.blowerDelay⟩ ∧
        t.nextSeq = next16 s.nextSeq ∧ (t.port w.owner).latches.washEnd = some (w.filter, .complete) ∧
        t.holder = s.holder ∧ t.budget = s.budget ∧ t.volume = s.volume ∧ t.queue = s.queue ∧
        (∀ g, g ≠ w.filter → t.filter g = s.filter g) ∧
        ∀ x, s.filter w.filter = some x → t.filter w.filter = some { x with
          service := .ripening s.clock, washes := next16 x.washes, lastWash := some ⟨s.clock, .complete⟩ })

/-- GAP_EXPIRY leaves SETTLING for IDLE, or waits for the last stop window (R86); STOP_WINDOW_EXPIRY with the feedback asserted is
an overrun: RUNON with HEADER_FAULT (RUNON) to every attached port, or an abort of the wash (R104). That the level of a RESTING pair
is not waited on in SETTLING is the model's choice (log 29). -/
def Obligations.GapsAndStopWindows : Prop :=
  ∀ s : State, Settled s →
    (∀ since, s.header = .settling since false → s.switch = none → s.activeBank.headerGap ≤ s.clock - since →
      exec .gapExpiry s = .next (s.withHeader (if s.anyStopping = true then .settling since true else .idle))) ∧
    (∀ pair x, s.pair pair = .stopping x → x.length ≤ s.clock - x.start → s.asserted (feedbackOf pair) = true →
      (∀ w, s.header.washing = some w →
        exec (.stopWindowExpiry pair) s = .next ((s.setPair .overrun pair).abort .feedbackFault)) ∧
      ((∃ since taken, s.header = .settling since taken) ∨ (∃ w r cause, s.header = .aborting w r cause) →
        exec (.stopWindowExpiry pair) s =
          .next (((s.setPair .overrun pair).withHeader .runon).postAttached (.headerFault .runon))))

/-! ## Inputs and basin (R96 to R99, R112 to R117, R134) -/

/-- INPUT_RAW_CHANGE restarts the measure and, with a qualify time of 0, moves the qualified level in its event;
INPUT_QUALIFY_EXPIRY moves it once the raw run has stood for the qualify time (R96). A level that the input already has is no
change (log 2: the model's choice). -/
def Obligations.InputsAreQualified : Prop :=
  ∀ (s : State) (i : Input) (high : Bool), Settled s →
    ((s.inputs.get i).high = high → exec (.inputRawChange i high) s = .next s) ∧
    ((s.inputs.get i).high ≠ high →
      (0 < s.plant.qualify.get i ∨ (high != s.plant.activeLow.get i) = s.asserted i →
        exec (.inputRawChange i high) s = .next (s.setInput i ⟨high, 0, s.asserted i⟩)) ∧
      (s.plant.qualify.get i = 0 → (high != s.plant.activeLow.get i) ≠ s.asserted i →
        exec (.inputRawChange i high) s = .next ((s.setInput i ⟨high, 0, !s.asserted i⟩).levelEffects i))) ∧
    (((s.inputs.get i).high != s.plant.activeLow.get i) ≠ s.asserted i →
      s.plant.qualify.get i ≤ 10 * (s.inputs.get i).run →
      exec (.inputQualifyExpiry i) s =
        .next ((s.setInput i { s.inputs.get i with asserted := !s.asserted i }).levelEffects i)) ∧
    (((s.inputs.get i).high != s.plant.activeLow.get i) = s.asserted i ∨
        10 * (s.inputs.get i).run < s.plant.qualify.get i →
      exec (.inputQualifyExpiry i) s = .next s)

/-- What a changed level of a trip, basin or STORM input does (R76, R78, R99, R115, R134). -/
def Obligations.TripBasinAndStormLevelsAct : Prop :=
  ∀ s : State,
    (s.asserted .headerTrip = true → s.levelEffects .headerTrip = s.abort .headerTrip) ∧
    (s.asserted .headerTrip = true → s.header.live = none → s.levelEffects .headerTrip = s) ∧
    (s.asserted .headerTrip = false → s.levelEffects .headerTrip = s) ∧
    (∀ w r st, s.asserted .supplyLow = true → s.header = .stepping w r → w.stepAt r.step = some st →
      s.levelEffects .supplyLow = if st.response = .hold then s.enterHolding w r else s.abort .supplyTrip) ∧
    (s.asserted .supplyLow = true → s.header.current = none → s.levelEffects .supplyLow = s) ∧
    (∀ w r st, s.asserted .basinHigh = true → s.header = .stepping w r → w.stepAt r.step = some st →
      s.levelEffects .basinHigh =
        if st.response = .hold then (s.setVolume s.plant.capacity).enterHolding w r
        else (s.setVolume s.plant.capacity).abort .basinTrip) ∧
    (∀ w r since st, s.asserted .supplyLow = false → s.asserted .basinHigh = false → s.header = .holding w r since →
      w.stepAt r.step = some st →
      s.levelEffects .supplyLow = s.enterStepping w r st ∧ s.levelEffects .basinHigh = s.enterStepping w r st) ∧
    (s.asserted .basinHigh = true → (s.levelEffects .basinHigh).volume = s.plant.capacity) ∧
    (s.asserted .basinEmpty = true → s.levelEffects .basinEmpty = s.setVolume 0) ∧
    (s.asserted .basinEmpty = false → s.levelEffects .basinEmpty = s) ∧ s.levelEffects .returnRun = s ∧
    (s.plant.stormEnable = false → s.levelEffects .storm = s) ∧
    (s.plant.stormEnable = true →
      ((if s.asserted .storm = true then BankId.storm else .normal) = s.active →
        s.levelEffects .storm = { s with switch := none }) ∧
      ((if s.asserted .storm = true then BankId.storm else .normal) = s.active.other →
        s.levelEffects .storm = { s with switch := some (s.switch.getD ⟨s.active.other, .line⟩) }))

/-- What a changed feedback level does to its pair (R102, R104, R105): a STARTING pair is RUNNING and its start delay is kept
once in a wash; a RUNNING pair faults; a STOPPING or OVERRUN pair rests, and the last stop window to end lets ABORTING go to
SETTLING (R85), and SETTLING to IDLE where the gap has been taken (R86, R108); RUNON ends when both lines are deasserted (R107). That
the level of a RESTING pair holds RUNON alone, and not ABORTING or SETTLING, is the model's choice (log 29). -/
def Obligations.FeedbackLevelsAct : Prop :=
  ∀ (s : State) (pair : Pair),
    (∀ x, s.asserted (feedbackOf pair) = true → s.pair pair = .starting x →
      s.levelEffects (feedbackOf pair) = { s.setPair .running pair with
        header := s.header.mapWash fun w =>
          match pair with
          | .pump => { w with pumpDelay := some (w.pumpDelay.getD (s.clock - x.start)) }
          | .blower => { w with blowerDelay := some (w.blowerDelay.getD (s.clock - x.start)) } }) ∧
    (s.asserted (feedbackOf pair) = true → (∀ x, s.pair pair ≠ .starting x) → s.levelEffects (feedbackOf pair) = s) ∧
    (∀ w, s.asserted (feedbackOf pair) = false → s.pair pair = .running → s.header.washing = some w →
      s.levelEffects (feedbackOf pair) = s.abort .feedbackFault) ∧
    (∀ x w r cause, s.asserted (feedbackOf pair) = false → s.pair pair = .stopping x → s.header = .aborting w r cause →
      s.anyOverrun = false → (s.setPair .resting pair).anyStopping = false →
      s.levelEffects (feedbackOf pair) = (s.setPair .resting pair).withHeader (.settling s.clock false)) ∧
    (s.asserted .pumpRun = false → s.asserted .blowerRun = false → s.header = .runon → s.pair pair = .overrun →
      s.levelEffects (feedbackOf pair) = (s.setPair .resting pair).withHeader (.settling s.clock false)) ∧
    (∀ t, t = s.setPair .resting pair → s.asserted (feedbackOf pair) = false → s.pair pair ≠ .running →
      (∀ x, s.pair pair ≠ .starting x) →
      (∀ w r cause, s.header = .aborting w r cause → t.anyOverrun = false →
        s.levelEffects (feedbackOf pair) = if t.anyStopping = true then t else t.withHeader (.settling s.clock false)) ∧
      (∀ since taken, s.header = .settling since taken →
        s.levelEffects (feedbackOf pair) = if taken = true ∧ t.anyStopping = false then t.withHeader .idle else t) ∧
      (s.header = .runon → s.levelEffects (feedbackOf pair) =
        if s.asserted .pumpRun = false ∧ s.asserted .blowerRun = false then t.withHeader (.settling s.clock false) else t) ∧
      ((∀ w r cause, s.header ≠ .aborting w r cause) → (∀ since taken, s.header ≠ .settling since taken) →
        s.header ≠ .runon → s.levelEffects (feedbackOf pair) = t))

/-- BASIN_DECLARE sets the volume where the figure is within the capacity and the header carries no transaction (R116); the
accrual adds the inflow less the drain within 0 and the capacity, the inflow to the wash, and leaves a volume set in its own
second (R113, R117). -/
def Obligations.TheBasinAccount : Prop :=
  (∀ (s : State) (p : PortNo) (tag litres : Nat), Ready s p →
    (litres ≤ s.plant.capacity → s.header.wash = none → exec (.basinDeclare p tag litres) s =
      .next ({ s.goodFrame p with
        volume := litres
        accrual := s.accrual.map fun (a : Accrual) => { a with volumeSet := true } }.answered p 18 tag (.accepted .none))) ∧
    (litres ≤ s.plant.capacity → s.header.wash ≠ none → exec (.basinDeclare p tag litres) s =
      .next ((s.goodFrame p).answered p 18 tag (.refused .wrongState))) ∧
    (s.plant.capacity < litres → exec (.basinDeclare p tag litres) s =
      .next ((s.goodFrame p).answered p 18 tag (.refused .range)))) ∧
  (∀ (s : State) (a : Accrual), Settled s → s.accrual = some a →
    exec .basinAccrual s = .next { s with
      accrual := none
      header := if a.charged = true then s.header
                else s.header.mapWash fun w => { w with volumeAdded := w.volumeAdded + a.inflow }
      volume := if a.volumeSet = true then s.volume
                else ((min (s.plant.capacity : Int) (max 0 ((s.volume : Int) + a.inflow - a.drain))).toNat) })

/-! ## Policy (R94, R95, R119, R126 to R136) and the store (R168, R169) -/

/-- POLICY_LOCK and POLICY_UNLOCK (R126, R127); the seven lock-covered requests are refused NO_LOCK while the lock is free and
LOCKED while another port holds it (R127). -/
def Obligations.ThePolicyLock : Prop :=
  ∀ (s : State) (p : PortNo) (tag : Nat), Ready s p →
    (s.lock = none ∨ s.holdsLock p = true → exec (.policyLock p tag) s =
      .next ((s.renewed p).answered p 19 tag (.accepted .none))) ∧
    (s.holdsLock p = true → exec (.policyUnlock p tag) s =
      .next ({ s.goodFrame p with lock := none }.answered p 20 tag (.accepted .none))) ∧
    (s.holdsLock p = false → exec (.policyUnlock p tag) s =
      .next ((s.goodFrame p).answered p 20 tag (.refused .noLock))) ∧
    (s.lock ≠ none → s.holdsLock p = false → exec (.policyLock p tag) s =
      .next ((s.goodFrame p).answered p 19 tag (.refused .locked))) ∧
    (s.holdsLock p = false →
      (∀ b i v, exec (.policyWrite p tag b i v) s = .next ((s.goodFrame p).answered p 21 tag
        (.refused (if s.lock = none then .noLock else .locked)))) ∧
      (∀ b l k st, exec (.recipeWrite p tag b l k st) s = .next ((s.goodFrame p).answered p 22 tag
        (.refused (if s.lock = none then .noLock else .locked)))) ∧
      (∀ b l k, exec (.recipeTruncate p tag b l k) s = .next ((s.goodFrame p).answered p 23 tag
        (.refused (if s.lock = none then .noLock else .locked)))) ∧
      (∀ n pr o l, filterOf n ≠ none → exec (.assign p tag n pr o l) s = .next ((s.goodFrame p).answered p 24 tag
        (.refused (if s.lock = none then .noLock else .locked)))) ∧
      (∀ k i v, exec (.plantWrite p tag k i v) s = .next ((s.goodFrame p).answered p 25 tag
        (.refused (if s.lock = none then .noLock else .locked)))) ∧
      (∀ b, exec (.postureSwitch p tag b) s = .next ((s.goodFrame p).answered p 26 tag
        (.refused (if s.lock = none then .noLock else .locked)))) ∧
      exec (.store p tag) s = .next ((s.goodFrame p).answered p 27 tag
        (.refused (if s.lock = none then .noLock else .locked))))

/-- Writes of the standby bank (R128 to R130): the item, the step replaced or appended, the recipe cut; the bank tests and the
field tests refuse with their codes, the lock renewed in every case. -/
def Obligations.WritesOfTheStandbyBank : Prop :=
  ∀ (s : State) (p : PortNo) (tag bank item value letter index count : Nat) (record : StepRecord), Ready s p →
    s.holdsLock p = true →
    (∀ code, (bankOf bank = none ∧ code = .range) ∨ (bankOf bank = some s.active ∧ code = .activeBank) ∨
        (bankOf bank = some s.active.other ∧ s.switch ≠ none ∧ code = RefusalCode.switchPending) →
      exec (.policyWrite p tag bank item value) s = .next ((s.renewed p).answered p 21 tag (.refused code)) ∧
      exec (.recipeWrite p tag bank letter index record) s = .next ((s.renewed p).answered p 22 tag (.refused code)) ∧
      exec (.recipeTruncate p tag bank letter count) s = .next ((s.renewed p).answered p 23 tag (.refused code))) ∧
    (bankOf bank = some s.active.other → s.switch = none →
      (∀ i, itemOf item = some i → i.range.1 ≤ value → value ≤ i.range.2 →
        exec (.policyWrite p tag bank item value) s =
          .next (((s.renewed p).setBank ((s.bank s.active.other).setItem value i) s.active.other).answered p 21 tag
            (.accepted .none))) ∧
      (∀ l st, letterOf letter = some l → stepOf record = some st → 1 ≤ index →
        index ≤ ((s.bank s.active.other).recipe l).length + 1 → index ≤ 8 →
        exec (.recipeWrite p tag bank letter index record) s =
          if st.interlocked = true then
            .next (((s.renewed p).setBank ((s.bank s.active.other).setRecipe
              (if index ≤ ((s.bank s.active.other).recipe l).length then
                ((s.bank s.active.other).recipe l).set (index - 1) st
              else (s.bank s.active.other).recipe l ++ [st]) l) s.active.other).answered p 22 tag (.accepted .none))
          else .next ((s.renewed p).answered p 22 tag (.refused .interlock))) ∧
      (∀ l, letterOf letter = some l → count ≤ ((s.bank s.active.other).recipe l).length →
        exec (.recipeTruncate p tag bank letter count) s =
          .next (((s.renewed p).setBank ((s.bank s.active.other).setRecipe
            (((s.bank s.active.other).recipe l).take count) l) s.active.other).answered p 23 tag (.accepted .none))) ∧
      ((∀ i, itemOf item = some i → value < i.range.1 ∨ i.range.2 < value) →
        exec (.policyWrite p tag bank item value) s = .next ((s.renewed p).answered p 21 tag (.refused .range))) ∧
      (letterOf letter = none ∨ stepOf record = none ∨ index = 0 ∨ 8 < index ∨
          (∃ l, letterOf letter = some l ∧ ((s.bank s.active.other).recipe l).length + 1 < index) →
        exec (.recipeWrite p tag bank letter index record) s = .next ((s.renewed p).answered p 22 tag (.refused .range))) ∧
      (letterOf letter = none →
        exec (.recipeTruncate p tag bank letter count) s = .next ((s.renewed p).answered p 23 tag (.refused .range))) ∧
      (∀ l, letterOf letter = some l → ((s.bank s.active.other).recipe l).length < count →
        exec (.recipeTruncate p tag bank letter count) s =
          .next ((s.renewed p).answered p 23 tag (.refused .range))))

/-- A step that passes the interlocks never drives the pump without the wash valve nor the blower without the air valve (R95), and
its planned seconds are those in which its pattern drives the pump ON (R92, R119). -/
def Obligations.InterlockedStepsAndPlannedSeconds : Prop :=
  ∀ st : Step, st.mark ≤ st.duration →
    (st.interlocked = true ↔ ∀ e, e < st.duration →
      ((st.pattern e).pump = .on → (st.pattern e).washValve = .on) ∧
      ((st.pattern e).blower = .on → (st.pattern e).airValve = .on)) ∧
    st.pumpSeconds = (List.range st.duration).countP fun e => (st.pattern e).pump = .on

/-- ASSIGN by the lock's holder (R131, R2): a filter brought from ABSENT is UNKNOWN and its owner told; a present one keeps its state
under the new owner and letter, or is absent; DUE, CALLED, WASHING and RIPENING are refused, and so is what would make a valid
active bank invalid, by a filter added, changed or removed; a filter number that is none is BAD_FILTER before the lock test (R152). -/
def Obligations.AssignChangesTheTable : Prop :=
  (∀ (s : State) (p : PortNo) (tag n present owner letter : Nat), Ready s p → filterOf n = none →
    exec (.assign p tag n present owner letter) s = .next ((s.goodFrame p).answered p 24 tag (.refused .badFilter))) ∧
  ∀ (s : State) (p o : PortNo) (tag n present owner letter : Nat) (f : FilterNo) (l : Letter), Ready s p →
    s.holdsLock p = true → filterOf n = some f → portOf owner = some o → letterOf letter = some l →
    (present ≠ 0 → s.filter f = none → s.breaksActive (s.setFilter f (some (Filter.fresh ⟨o, l⟩))) = false →
      ∃ t, exec (.assign p tag n present owner letter) s = .next t ∧ t.filter f = some (Filter.fresh ⟨o, l⟩) ∧
        (t.port o).latches.reconcile = some (s.unknownCount o + 1) ∧ (∀ g, g ≠ f → t.filter g = s.filter g) ∧
        t.lock = some ⟨p, s.clock⟩ ∧ t.queue = s.queue) ∧
    (∀ r, present ≠ 0 → s.filter f = some r →
      ((∃ start, r.service = .inService start) ∨ (∃ h, r.service = .heldOut h) ∨ (r.service = .unknown ∧ r.owner = o)) →
      s.breaksActive (s.setFilter f (some { r with owner := o, letter := l })) = false →
      exec (.assign p tag n present owner letter) s =
        .next (((s.renewed p).setFilter f (some { r with owner := o, letter := l })).answered p 24 tag (.accepted .none))) ∧
    (∀ r, present ≠ 0 → s.filter f = some r → r.service = .unknown → r.owner ≠ o →
      s.breaksActive (s.setFilter f (some { r with owner := o, letter := l })) = false →
      ∃ t, exec (.assign p tag n present owner letter) s = .next t ∧
        t.filter f = some { r with owner := o, letter := l } ∧
        (t.port o).latches.reconcile = some (s.unknownCount o + 1)) ∧
    ((∀ r, s.filter f = some r → r.service.isAssignable = true) →
      s.breaksActive (s.setFilter f none) = false → ∀ owner' letter', exec (.assign p tag n 0 owner' letter') s =
        .next (((s.renewed p).setFilter f none).answered p 24 tag (.accepted .none))) ∧
    (∀ r, s.filter f = some r → ((∃ d start, r.service = .due d start ∨ r.service = .called d start ∨
        r.service = .washing d start) ∨ ∃ start, r.service = .ripening start) →
      exec (.assign p tag n present owner letter) s = .next ((s.renewed p).answered p 24 tag (.refused .wrongState))) ∧
    (∀ r, present ≠ 0 → s.filter f = some r → r.service.isAssignable = true →
      s.breaksActive (s.setFilter f (some { r with owner := o, letter := l })) = true →
      exec (.assign p tag n present owner letter) s = .next ((s.renewed p).answered p 24 tag (.refused .invalid))) ∧
    (present ≠ 0 → s.filter f = none → s.breaksActive (s.setFilter f (some (Filter.fresh ⟨o, l⟩))) = true →
      exec (.assign p tag n present owner letter) s = .next ((s.renewed p).answered p 24 tag (.refused .invalid))) ∧
    ((∀ r, s.filter f = some r → r.service.isAssignable = true) → s.breaksActive (s.setFilter f none) = true →
      ∀ owner' letter', exec (.assign p tag n 0 owner' letter') s =
        .next ((s.renewed p).answered p 24 tag (.refused .invalid))) ∧
    (∀ owner' letter', present ≠ 0 → portOf owner' = none ∨ letterOf letter' = none →
      exec (.assign p tag n present owner' letter') s = .next ((s.renewed p).answered p 24 tag (.refused .range)))

/-- PLANT_WRITE by the lock's holder (R132, R118, R134, R158): the setting takes the value; a capacity cuts the volume, new quiet
and lost times move the other ports, an enable makes the STORM line act or drops its switch; what names no setting, a value out of
range, and a capacity that would make a valid active bank invalid are refused. That a polarity or an enable above 1 is out of range
is the model's reading (log 27). -/
def Obligations.PlantWriteAppliesTheSetting : Prop :=
  (∀ (s : State) (p : PortNo) (tag k input value : Nat), Ready s p → s.holdsLock p = true → settingOf k input = none →
    exec (.plantWrite p tag k input value) s = .next ((s.renewed p).answered p 25 tag (.refused .range))) ∧
  ∀ (s : State) (p : PortNo) (tag k input value : Nat) (x : Setting), Ready s p → s.holdsLock p = true →
    settingOf k input = some x →
    (s.plant.accepts value x = false → exec (.plantWrite p tag k input value) s =
      .next ((s.renewed p).answered p 25 tag (.refused .range))) ∧
    (s.plant.accepts value x = true → s.breaksActive { s with plant := s.plant.setValue value x } = true →
      exec (.plantWrite p tag k input value) s = .next ((s.renewed p).answered p 25 tag (.refused .invalid))) ∧
    (s.plant.accepts value x = true → s.breaksActive { s with plant := s.plant.setValue value x } = false →
      (x = .capacity → exec (.plantWrite p tag k input value) s =
        .next ({ s.renewed p with
          plant := s.plant.setValue value x
          volume := min s.volume value }.answered p 25 tag (.accepted .none))) ∧
      (x = .returnRate → exec (.plantWrite p tag k input value) s =
        .next ({ s.renewed p with plant := s.plant.setValue value x }.answered p 25 tag (.accepted .none))) ∧
      (∀ i, x = .polarity i ∨ x = .qualify i → exec (.plantWrite p tag k input value) s =
        .next (({ s.renewed p with plant := s.plant.setValue value x }.qualify i).answered p 25 tag (.accepted .none))) ∧
      (x = .stormEnable → value = 0 → exec (.plantWrite p tag k input value) s =
        .next ({ s.renewed p with
          plant := s.plant.setValue value x
          switch := if s.switch.map PendingSwitch.origin = some Origin.line then none else s.switch }.answered p 25 tag
            (.accepted .none))) ∧
      (x = .stormEnable → value = 1 → exec (.plantWrite p tag k input value) s =
        .next ({ s.renewed p with
          plant := s.plant.setValue value x
          switch := if s.plant.stormEnable = true then s.switch
            else if (if s.asserted .storm = true then BankId.storm else .normal) = s.active then none
            else some (s.switch.getD ⟨s.active.other, .line⟩) }.answered p 25 tag (.accepted .none))) ∧
      (x = .quietTime ∨ x = .lostTime → ∃ t, exec (.plantWrite p tag k input value) s = .next t ∧
        t.plant = s.plant.setValue value x ∧ t.lock = some ⟨p, s.clock⟩ ∧ ∀ i, i ≠ p →
          ((s.port i).state.isAttached = true → t.plant.lostTime ≤ s.clock - (s.port i).lastGood →
            (t.port i).state = .lost) ∧
          ((s.port i).state = .attached → t.plant.quietTime ≤ s.clock - (s.port i).lastGood →
            s.clock - (s.port i).lastGood < t.plant.lostTime → (t.port i).state = .quiet) ∧
          (s.clock - (s.port i).lastGood < t.plant.quietTime → (t.port i).state = (s.port i).state)))

/-- POSTURE_SWITCH makes a switch to a valid standby bank pending, or cancels one (R133). SWITCH_TAKE, with the header free and the
lock free, makes a valid target active and meets the timers, the budget, the hold and, in SETTLING, the header gap with its limits,
or rejects it (R135, R136): IN_SERVICE filters past the run-time limit are queued, DUE ones gain RUNTIME, RIPENING ones past their
limit are HELD_OUT, the highest-numbered of an owner in its FILTER_HELD latch (R21). That a header whose gap is reached waits in
SETTLING on stop windows alone, and not on the feedback of a RESTING pair, is the model's choice (log 29). -/
def Obligations.PostureSwitches : Prop :=
  (∀ (s : State) (p : PortNo) (tag target : Nat), Ready s p → s.holdsLock p = true →
    (bankOf target = none → exec (.postureSwitch p tag target) s =
      .next ((s.renewed p).answered p 26 tag (.refused .range))) ∧
    (bankOf target = some s.active → exec (.postureSwitch p tag target) s =
      .next ({ s.renewed p with switch := none }.answered p 26 tag (.accepted .none))) ∧
    (bankOf target = some s.active.other → s.validBank s.active.other = true → exec (.postureSwitch p tag target) s =
      .next ({ s.renewed p with switch := some ⟨s.active.other, .station⟩ }.answered p 26 tag (.accepted .none))) ∧
    (bankOf target = some s.active.other → s.validBank s.active.other = false → exec (.postureSwitch p tag target) s =
      .next ((s.renewed p).answered p 26 tag (.refused .invalid)))) ∧
  (∀ (s : State) (x : PendingSwitch), s.switch = some x → s.lock = none → s.header.wash = none →
    (s.validBank x.target = false → exec .switchTake s =
      .next ({ s with switch := none }.postAttached (.posture .rejected))) ∧
    (s.validBank x.target = true → ∃ t, exec .switchTake s = .next t ∧ t.active = x.target ∧ t.switch = none ∧
      t.normal = s.normal ∧ t.storm = s.storm ∧ t.holder = s.holder ∧
      t.budget = min s.budget (s.bank x.target).runLength ∧
      (∀ h, s.hold = some h →
        t.hold = if (s.bank x.target).holdLimit ≤ s.clock - h.start then none else some h) ∧
      (s.header = .offline ∨ s.header = .idle → t.header = .idle) ∧ (s.header = .runon → t.header = .runon) ∧
      (∀ since taken, s.header = .settling since taken → t.header =
        if taken = false ∧ (s.bank x.target).headerGap ≤ s.clock - since then
          (if s.anyStopping = true then .settling since true else .idle)
        else .settling since taken) ∧
      (∀ i, (s.port i).state.isAttached = true → (t.port i).latches.posture = some (.bank x.target)) ∧
      ∀ f r, s.filter f = some r →
        (∀ start : Int, r.service = .inService start →
          t.filter f = some (if (((s.bank x.target).runTimeLimit : Int) * 3600 ≤ (s.clock : Int) - start) then
            { r with service := .due ⟨⟨false, false, true, none⟩, .routine, s.clock⟩ start } else r)) ∧
        (∀ start : Int, r.service = .inService start → ((s.bank x.target).runTimeLimit : Int) * 3600 ≤ (s.clock : Int) - start →
          f ∈ t.queue) ∧
        (∀ (d : Due) (start : Int), r.service = .due d start → d.cls = d.reasons.cls → (f ∈ s.queue → f ∈ t.queue) ∧
          t.filter f = some (if (((s.bank x.target).runTimeLimit : Int) * 3600 ≤ (s.clock : Int) - start) then
            { r with service := .due { d with reasons := { d.reasons with runtime := true } } start } else r)) ∧
        (∀ start : Nat, r.service = .ripening start →
          t.filter f = some (if (s.bank x.target).ripeningLimit ≤ s.clock - start then
            { r with service := .heldOut .ripenTimeout } else r) ∧
          ((s.bank x.target).ripeningLimit ≤ s.clock - start →
            (∀ g y since, f < g → s.filter g = some y → y.owner = r.owner → y.service = .ripening since →
              s.clock - since < (s.bank x.target).ripeningLimit) →
            (t.port r.owner).latches.filterHeld = some f))))

/-- STORE by the lock's holder takes a snapshot of the live content, and the image is INVALID until the write completes (R168);
STORE_COMPLETE makes the snapshot the valid image or leaves it INVALID, and posts STORED (R169). That a completion under 0.5 s is
not taken is the model's reading (log 21). -/
def Obligations.StoreAndItsCompletion : Prop :=
  (∀ (s : State) (p : PortNo) (tag : Nat), Ready s p → s.holdsLock p = true →
    (s.storing = none → exec (.store p tag) s =
      .next ({ s.renewed p with
        storing := some ⟨p, s.liveContent, 0⟩
        image := { s.image with valid := false } }.answered p 27 tag (.accepted .none))) ∧
    (s.storing ≠ none → exec (.store p tag) s =
      .next ((s.renewed p).answered p 27 tag (.refused .storeBusy)))) ∧
  (∀ (s : State) (w : StoreWrite), Settled s → s.storing = some w →
    (50 ≤ w.age → exec (.storeComplete true) s =
      .next ({ s with storing := none, image := ⟨true, w.snapshot⟩ }.postTo w.requester (.stored true))) ∧
    (50 ≤ w.age → exec (.storeComplete false) s =
      .next ({ s with storing := none }.postTo w.requester (.stored false))) ∧
    (∀ b, w.age < 50 → exec (.storeComplete b) s = .next s))

/-! ## Laws kept by every step -/

/-- The queue and the header agree with the filters after every step from a state in which they do (R25, R26, R62). -/
def Obligations.EveryStepKeepsTheRotationLaw : Prop :=
  ∀ s s' : State, RotationLaw s → step s = .next s' → RotationLaw s'

/-- The lock holder, the hold's port and the flags' ports stay attached, the hold with the tenure (R53, R54, R57, R126, R157). -/
def Obligations.EveryStepKeepsTheClaims : Prop :=
  ∀ s s' : State, ClaimLaw s → step s = .next s' → ClaimLaw s'

/-- The outputs stay the current step's pattern in STEPPING and all OFF elsewhere (R90, R92). -/
def Obligations.EveryStepKeepsTheOutputs : Prop :=
  ∀ s s' : State, OutputLaw s → step s = .next s' → OutputLaw s'

/-- Each of these laws is kept on its own: the volume within the capacity (R112), the active bank valid out of OFFLINE (R124), the
pending switch to the standby bank (R133), the budget within the run length (R52), at most four replies and a bad count of 8 in
BLOCKED alone (R150, R151), the history's numbers consecutive (R139), the image INVALID during a STORE (R168), and in a record with
due fields a reason and the class that its reasons imply (R7). -/
def Obligations.EveryStepKeepsTheStoredLaws : Prop :=
  ∀ s s' : State, step s = .next s' →
    (BasinLaw s → BasinLaw s') ∧ (ActiveBankLaw s → ActiveBankLaw s') ∧ (SwitchLaw s → SwitchLaw s') ∧
    (BudgetLaw s → BudgetLaw s') ∧ (PortLaw s → PortLaw s') ∧ (HistoryLaw s → HistoryLaw s') ∧ (StoreLaw s → StoreLaw s') ∧
    (DueLaw s → DueLaw s')

/-- The laws hold in State.reset. -/
def Obligations.ResetMeetsTheLaws : Prop :=
  RotationLaw State.reset ∧ ClaimLaw State.reset ∧ OutputLaw State.reset ∧ BasinLaw State.reset ∧
  ActiveBankLaw State.reset ∧ SwitchLaw State.reset ∧ BudgetLaw State.reset ∧ PortLaw State.reset ∧
  HistoryLaw State.reset ∧ StoreLaw State.reset ∧ DueLaw State.reset

/-! ## Telegrams (spec/12) -/

/-- The telegram of a well-formed request command is read back as that command, and its whole frame, gathered character by
character, as that telegram. -/
def Obligations.TelegramsAreReadBack : Prop :=
  ∀ (i : Instr) (p : PortNo) (t : Telegram), i.wf = true → encodeRequest i = some (p, t) →
    decodeRequest p (byteOf t.kind) (byteOf t.tag) t.body = .command i ∧
    ∃ covered, frame (byteOf t.kind) (byteOf t.tag) t.body = startByte :: covered ∧
      gather covered = .good (byteOf t.kind) (byteOf t.tag) t.body ∧
      ∀ got rest, got ++ rest = covered → rest ≠ [] → gather got = .more

end
end

