-- ==== Sys2Proof/Laws/State.lean ====
section
/-! SUPPORT. What each plain update of State leaves: one lemma per field per update, and reading after writing. -/

namespace Sys2Proof.Machine

/-! ### Containers -/

@[simp] theorem ByPort.get_set {α : Type} (v : ByPort α) (p : PortNo) (x : α) : (v.set p x).get p = x := by
  fin_cases p <;> rfl

theorem ByPort.get_set_ne {α : Type} (v : ByPort α) {p q : PortNo} (x : α) (h : q ≠ p) : (v.set p x).get q = v.get q := by
  fin_cases p <;> fin_cases q <;> first | rfl | exact absurd rfl h

@[simp] theorem ByPort.get_mapIdx {α β : Type} (g : PortNo → α → β) (v : ByPort α) (p : PortNo) :
    (v.mapIdx g).get p = g p (v.get p) := by
  fin_cases p <;> rfl

@[simp] theorem ByPort.get_const {α : Type} (x : α) (p : PortNo) : (ByPort.const x).get p = x := by
  fin_cases p <;> rfl

@[simp] theorem PerInput.get_set {α : Type} (v : PerInput α) (i : Input) (x : α) : (v.set i x).get i = x := by
  cases i <;> rfl

theorem PerInput.get_set_ne {α : Type} (v : PerInput α) {i j : Input} (x : α) (h : j ≠ i) : (v.set i x).get j = v.get j := by
  cases i <;> cases j <;> first | rfl | exact absurd rfl h

@[simp] theorem PerInput.get_map {α β : Type} (g : α → β) (v : PerInput α) (i : Input) : (v.map g).get i = g (v.get i) := by
  cases i <;> rfl

@[simp] theorem Table.get_set {α : Type} (t : Table α) (f : FilterNo) (x : α) : (t.set f x).get f = x := by
  simp [Table.get, Table.set]

theorem Table.get_set_ne {α : Type} (t : Table α) {f g : FilterNo} (x : α) (h : g ≠ f) : (t.set f x).get g = t.get g := by
  have : f.val ≠ g.val := fun e => h (Fin.ext e.symm)
  simp [Table.get, Table.set, this]

@[simp] theorem Table.get_map {α β : Type} (g : α → β) (t : Table α) (f : FilterNo) : (t.map g).get f = g (t.get f) := by
  simp [Table.get, Table.map]

@[simp] theorem Table.get_const {α : Type} (x : α) (f : FilterNo) : (Table.const x).get f = x := by
  simp only [Table.get, Table.const, List.get_eq_getElem]
  exact List.getElem_replicate _

/-! ### Reading after writing -/

@[simp] theorem State.port_setPort (s : State) (p : PortNo) (q : Port) : (s.setPort p q).port p = q := by
  simp [State.port, State.setPort]

theorem State.port_setPort_ne (s : State) {p i : PortNo} (q : Port) (h : i ≠ p) : (s.setPort p q).port i = s.port i := by
  simp [State.port, State.setPort, ByPort.get_set_ne _ _ h]

@[simp] theorem State.filter_setFilter (s : State) (f : FilterNo) (r : Option Filter) : (s.setFilter f r).filter f = r := by
  simp [State.filter, State.setFilter]

theorem State.filter_setFilter_ne (s : State) {f g : FilterNo} (r : Option Filter) (h : g ≠ f) :
    (s.setFilter f r).filter g = s.filter g := by
  simp [State.filter, State.setFilter, Table.get_set_ne _ _ h]

@[simp] theorem State.header_withHeader (s : State) (h : Header) : (s.withHeader h).header = h := rfl

@[simp] theorem State.pair_setPair (s : State) (v : Supervision) (pair : Pair) : (s.setPair v pair).pair pair = v := by
  cases pair <;> rfl

@[simp] theorem State.bank_setBank (s : State) (b : Bank) (k : BankId) : (s.setBank b k).bank k = b := by
  cases k <;> rfl

theorem State.bank_setBank_ne (s : State) (b : Bank) {k j : BankId} (h : j ≠ k) : (s.setBank b k).bank j = s.bank j := by
  cases k <;> cases j <;> first | rfl | exact absurd rfl h

@[simp] theorem State.outputs_setOutputs (s : State) (o : Lines) (n : Nat) : (s.setOutputs o n).outputs = o := rfl

@[simp] theorem State.asserted_setInput (s : State) (i : Input) (v : InputLine) : (s.setInput i v).asserted i = v.asserted := by
  simp [State.asserted, State.setInput]

theorem State.asserted_setInput_ne (s : State) {i j : Input} (v : InputLine) (h : j ≠ i) :
    (s.setInput i v).asserted j = s.asserted j := by
  simp [State.asserted, State.setInput, PerInput.get_set_ne _ _ h]

/-! ### setPort -/

@[simp] theorem State.setPort_pending (s : State) (p : PortNo) (q : Port) : (s.setPort p q).pending = s.pending := rfl
@[simp] theorem State.setPort_draws (s : State) (p : PortNo) (q : Port) : (s.setPort p q).draws = s.draws := rfl
@[simp] theorem State.setPort_phase (s : State) (p : PortNo) (q : Port) : (s.setPort p q).phase = s.phase := rfl
@[simp] theorem State.setPort_clock (s : State) (p : PortNo) (q : Port) : (s.setPort p q).clock = s.clock := rfl
@[simp] theorem State.setPort_hundredth (s : State) (p : PortNo) (q : Port) : (s.setPort p q).hundredth = s.hundredth := rfl
@[simp] theorem State.setPort_rate (s : State) (p : PortNo) (q : Port) : (s.setPort p q).rate = s.rate := rfl
@[simp] theorem State.setPort_filters (s : State) (p : PortNo) (q : Port) : (s.setPort p q).filters = s.filters := rfl
@[simp] theorem State.setPort_queue (s : State) (p : PortNo) (q : Port) : (s.setPort p q).queue = s.queue := rfl
@[simp] theorem State.setPort_holder (s : State) (p : PortNo) (q : Port) : (s.setPort p q).holder = s.holder := rfl
@[simp] theorem State.setPort_budget (s : State) (p : PortNo) (q : Port) : (s.setPort p q).budget = s.budget := rfl
@[simp] theorem State.setPort_hold (s : State) (p : PortNo) (q : Port) : (s.setPort p q).hold = s.hold := rfl
@[simp] theorem State.setPort_holdFlags (s : State) (p : PortNo) (q : Port) : (s.setPort p q).holdFlags = s.holdFlags := rfl
@[simp] theorem State.setPort_header (s : State) (p : PortNo) (q : Port) : (s.setPort p q).header = s.header := rfl
@[simp] theorem State.setPort_outputs (s : State) (p : PortNo) (q : Port) : (s.setPort p q).outputs = s.outputs := rfl
@[simp] theorem State.setPort_pumpPair (s : State) (p : PortNo) (q : Port) : (s.setPort p q).pumpPair = s.pumpPair := rfl
@[simp] theorem State.setPort_blowerPair (s : State) (p : PortNo) (q : Port) : (s.setPort p q).blowerPair = s.blowerPair := rfl
@[simp] theorem State.setPort_inputs (s : State) (p : PortNo) (q : Port) : (s.setPort p q).inputs = s.inputs := rfl
@[simp] theorem State.setPort_volume (s : State) (p : PortNo) (q : Port) : (s.setPort p q).volume = s.volume := rfl
@[simp] theorem State.setPort_accrual (s : State) (p : PortNo) (q : Port) : (s.setPort p q).accrual = s.accrual := rfl
@[simp] theorem State.setPort_normal (s : State) (p : PortNo) (q : Port) : (s.setPort p q).normal = s.normal := rfl
@[simp] theorem State.setPort_storm (s : State) (p : PortNo) (q : Port) : (s.setPort p q).storm = s.storm := rfl
@[simp] theorem State.setPort_active (s : State) (p : PortNo) (q : Port) : (s.setPort p q).active = s.active := rfl
@[simp] theorem State.setPort_plant (s : State) (p : PortNo) (q : Port) : (s.setPort p q).plant = s.plant := rfl
@[simp] theorem State.setPort_lock (s : State) (p : PortNo) (q : Port) : (s.setPort p q).lock = s.lock := rfl
@[simp] theorem State.setPort_switch (s : State) (p : PortNo) (q : Port) : (s.setPort p q).switch = s.switch := rfl
@[simp] theorem State.setPort_image (s : State) (p : PortNo) (q : Port) : (s.setPort p q).image = s.image := rfl
@[simp] theorem State.setPort_storing (s : State) (p : PortNo) (q : Port) : (s.setPort p q).storing = s.storing := rfl
@[simp] theorem State.setPort_history (s : State) (p : PortNo) (q : Port) : (s.setPort p q).history = s.history := rfl
@[simp] theorem State.setPort_nextSeq (s : State) (p : PortNo) (q : Port) : (s.setPort p q).nextSeq = s.nextSeq := rfl

/-! ### setFilter -/

@[simp] theorem State.setFilter_pending (s : State) (f : FilterNo) (r : Option Filter) : (s.setFilter f r).pending = s.pending := rfl
@[simp] theorem State.setFilter_draws (s : State) (f : FilterNo) (r : Option Filter) : (s.setFilter f r).draws = s.draws := rfl
@[simp] theorem State.setFilter_phase (s : State) (f : FilterNo) (r : Option Filter) : (s.setFilter f r).phase = s.phase := rfl
@[simp] theorem State.setFilter_clock (s : State) (f : FilterNo) (r : Option Filter) : (s.setFilter f r).clock = s.clock := rfl
@[simp] theorem State.setFilter_hundredth (s : State) (f : FilterNo) (r : Option Filter) : (s.setFilter f r).hundredth = s.hundredth := rfl
@[simp] theorem State.setFilter_rate (s : State) (f : FilterNo) (r : Option Filter) : (s.setFilter f r).rate = s.rate := rfl
@[simp] theorem State.setFilter_ports (s : State) (f : FilterNo) (r : Option Filter) : (s.setFilter f r).ports = s.ports := rfl
@[simp] theorem State.setFilter_queue (s : State) (f : FilterNo) (r : Option Filter) : (s.setFilter f r).queue = s.queue := rfl
@[simp] theorem State.setFilter_holder (s : State) (f : FilterNo) (r : Option Filter) : (s.setFilter f r).holder = s.holder := rfl
@[simp] theorem State.setFilter_budget (s : State) (f : FilterNo) (r : Option Filter) : (s.setFilter f r).budget = s.budget := rfl
@[simp] theorem State.setFilter_hold (s : State) (f : FilterNo) (r : Option Filter) : (s.setFilter f r).hold = s.hold := rfl
@[simp] theorem State.setFilter_holdFlags (s : State) (f : FilterNo) (r : Option Filter) : (s.setFilter f r).holdFlags = s.holdFlags := rfl
@[simp] theorem State.setFilter_header (s : State) (f : FilterNo) (r : Option Filter) : (s.setFilter f r).header = s.header := rfl
@[simp] theorem State.setFilter_outputs (s : State) (f : FilterNo) (r : Option Filter) : (s.setFilter f r).outputs = s.outputs := rfl
@[simp] theorem State.setFilter_pumpPair (s : State) (f : FilterNo) (r : Option Filter) : (s.setFilter f r).pumpPair = s.pumpPair := rfl
@[simp] theorem State.setFilter_blowerPair (s : State) (f : FilterNo) (r : Option Filter) : (s.setFilter f r).blowerPair = s.blowerPair := rfl
@[simp] theorem State.setFilter_inputs (s : State) (f : FilterNo) (r : Option Filter) : (s.setFilter f r).inputs = s.inputs := rfl
@[simp] theorem State.setFilter_volume (s : State) (f : FilterNo) (r : Option Filter) : (s.setFilter f r).volume = s.volume := rfl
@[simp] theorem State.setFilter_accrual (s : State) (f : FilterNo) (r : Option Filter) : (s.setFilter f r).accrual = s.accrual := rfl
@[simp] theorem State.setFilter_normal (s : State) (f : FilterNo) (r : Option Filter) : (s.setFilter f r).normal = s.normal := rfl
@[simp] theorem State.setFilter_storm (s : State) (f : FilterNo) (r : Option Filter) : (s.setFilter f r).storm = s.storm := rfl
@[simp] theorem State.setFilter_active (s : State) (f : FilterNo) (r : Option Filter) : (s.setFilter f r).active = s.active := rfl
@[simp] theorem State.setFilter_plant (s : State) (f : FilterNo) (r : Option Filter) : (s.setFilter f r).plant = s.plant := rfl
@[simp] theorem State.setFilter_lock (s : State) (f : FilterNo) (r : Option Filter) : (s.setFilter f r).lock = s.lock := rfl
@[simp] theorem State.setFilter_switch (s : State) (f : FilterNo) (r : Option Filter) : (s.setFilter f r).switch = s.switch := rfl
@[simp] theorem State.setFilter_image (s : State) (f : FilterNo) (r : Option Filter) : (s.setFilter f r).image = s.image := rfl
@[simp] theorem State.setFilter_storing (s : State) (f : FilterNo) (r : Option Filter) : (s.setFilter f r).storing = s.storing := rfl
@[simp] theorem State.setFilter_history (s : State) (f : FilterNo) (r : Option Filter) : (s.setFilter f r).history = s.history := rfl
@[simp] theorem State.setFilter_nextSeq (s : State) (f : FilterNo) (r : Option Filter) : (s.setFilter f r).nextSeq = s.nextSeq := rfl

/-! ### enqueue -/

@[simp] theorem State.enqueue_pending (s : State) (f : FilterNo) : (s.enqueue f).pending = s.pending := rfl
@[simp] theorem State.enqueue_draws (s : State) (f : FilterNo) : (s.enqueue f).draws = s.draws := rfl
@[simp] theorem State.enqueue_phase (s : State) (f : FilterNo) : (s.enqueue f).phase = s.phase := rfl
@[simp] theorem State.enqueue_clock (s : State) (f : FilterNo) : (s.enqueue f).clock = s.clock := rfl
@[simp] theorem State.enqueue_hundredth (s : State) (f : FilterNo) : (s.enqueue f).hundredth = s.hundredth := rfl
@[simp] theorem State.enqueue_rate (s : State) (f : FilterNo) : (s.enqueue f).rate = s.rate := rfl
@[simp] theorem State.enqueue_ports (s : State) (f : FilterNo) : (s.enqueue f).ports = s.ports := rfl
@[simp] theorem State.enqueue_filters (s : State) (f : FilterNo) : (s.enqueue f).filters = s.filters := rfl
@[simp] theorem State.enqueue_holder (s : State) (f : FilterNo) : (s.enqueue f).holder = s.holder := rfl
@[simp] theorem State.enqueue_budget (s : State) (f : FilterNo) : (s.enqueue f).budget = s.budget := rfl
@[simp] theorem State.enqueue_hold (s : State) (f : FilterNo) : (s.enqueue f).hold = s.hold := rfl
@[simp] theorem State.enqueue_holdFlags (s : State) (f : FilterNo) : (s.enqueue f).holdFlags = s.holdFlags := rfl
@[simp] theorem State.enqueue_header (s : State) (f : FilterNo) : (s.enqueue f).header = s.header := rfl
@[simp] theorem State.enqueue_outputs (s : State) (f : FilterNo) : (s.enqueue f).outputs = s.outputs := rfl
@[simp] theorem State.enqueue_pumpPair (s : State) (f : FilterNo) : (s.enqueue f).pumpPair = s.pumpPair := rfl
@[simp] theorem State.enqueue_blowerPair (s : State) (f : FilterNo) : (s.enqueue f).blowerPair = s.blowerPair := rfl
@[simp] theorem State.enqueue_inputs (s : State) (f : FilterNo) : (s.enqueue f).inputs = s.inputs := rfl
@[simp] theorem State.enqueue_volume (s : State) (f : FilterNo) : (s.enqueue f).volume = s.volume := rfl
@[simp] theorem State.enqueue_accrual (s : State) (f : FilterNo) : (s.enqueue f).accrual = s.accrual := rfl
@[simp] theorem State.enqueue_normal (s : State) (f : FilterNo) : (s.enqueue f).normal = s.normal := rfl
@[simp] theorem State.enqueue_storm (s : State) (f : FilterNo) : (s.enqueue f).storm = s.storm := rfl
@[simp] theorem State.enqueue_active (s : State) (f : FilterNo) : (s.enqueue f).active = s.active := rfl
@[simp] theorem State.enqueue_plant (s : State) (f : FilterNo) : (s.enqueue f).plant = s.plant := rfl
@[simp] theorem State.enqueue_lock (s : State) (f : FilterNo) : (s.enqueue f).lock = s.lock := rfl
@[simp] theorem State.enqueue_switch (s : State) (f : FilterNo) : (s.enqueue f).switch = s.switch := rfl
@[simp] theorem State.enqueue_image (s : State) (f : FilterNo) : (s.enqueue f).image = s.image := rfl
@[simp] theorem State.enqueue_storing (s : State) (f : FilterNo) : (s.enqueue f).storing = s.storing := rfl
@[simp] theorem State.enqueue_history (s : State) (f : FilterNo) : (s.enqueue f).history = s.history := rfl
@[simp] theorem State.enqueue_nextSeq (s : State) (f : FilterNo) : (s.enqueue f).nextSeq = s.nextSeq := rfl

/-! ### dequeue -/

@[simp] theorem State.dequeue_pending (s : State) (f : FilterNo) : (s.dequeue f).pending = s.pending := rfl
@[simp] theorem State.dequeue_draws (s : State) (f : FilterNo) : (s.dequeue f).draws = s.draws := rfl
@[simp] theorem State.dequeue_phase (s : State) (f : FilterNo) : (s.dequeue f).phase = s.phase := rfl
@[simp] theorem State.dequeue_clock (s : State) (f : FilterNo) : (s.dequeue f).clock = s.clock := rfl
@[simp] theorem State.dequeue_hundredth (s : State) (f : FilterNo) : (s.dequeue f).hundredth = s.hundredth := rfl
@[simp] theorem State.dequeue_rate (s : State) (f : FilterNo) : (s.dequeue f).rate = s.rate := rfl
@[simp] theorem State.dequeue_ports (s : State) (f : FilterNo) : (s.dequeue f).ports = s.ports := rfl
@[simp] theorem State.dequeue_filters (s : State) (f : FilterNo) : (s.dequeue f).filters = s.filters := rfl
@[simp] theorem State.dequeue_holder (s : State) (f : FilterNo) : (s.dequeue f).holder = s.holder := rfl
@[simp] theorem State.dequeue_budget (s : State) (f : FilterNo) : (s.dequeue f).budget = s.budget := rfl
@[simp] theorem State.dequeue_hold (s : State) (f : FilterNo) : (s.dequeue f).hold = s.hold := rfl
@[simp] theorem State.dequeue_holdFlags (s : State) (f : FilterNo) : (s.dequeue f).holdFlags = s.holdFlags := rfl
@[simp] theorem State.dequeue_header (s : State) (f : FilterNo) : (s.dequeue f).header = s.header := rfl
@[simp] theorem State.dequeue_outputs (s : State) (f : FilterNo) : (s.dequeue f).outputs = s.outputs := rfl
@[simp] theorem State.dequeue_pumpPair (s : State) (f : FilterNo) : (s.dequeue f).pumpPair = s.pumpPair := rfl
@[simp] theorem State.dequeue_blowerPair (s : State) (f : FilterNo) : (s.dequeue f).blowerPair = s.blowerPair := rfl
@[simp] theorem State.dequeue_inputs (s : State) (f : FilterNo) : (s.dequeue f).inputs = s.inputs := rfl
@[simp] theorem State.dequeue_volume (s : State) (f : FilterNo) : (s.dequeue f).volume = s.volume := rfl
@[simp] theorem State.dequeue_accrual (s : State) (f : FilterNo) : (s.dequeue f).accrual = s.accrual := rfl
@[simp] theorem State.dequeue_normal (s : State) (f : FilterNo) : (s.dequeue f).normal = s.normal := rfl
@[simp] theorem State.dequeue_storm (s : State) (f : FilterNo) : (s.dequeue f).storm = s.storm := rfl
@[simp] theorem State.dequeue_active (s : State) (f : FilterNo) : (s.dequeue f).active = s.active := rfl
@[simp] theorem State.dequeue_plant (s : State) (f : FilterNo) : (s.dequeue f).plant = s.plant := rfl
@[simp] theorem State.dequeue_lock (s : State) (f : FilterNo) : (s.dequeue f).lock = s.lock := rfl
@[simp] theorem State.dequeue_switch (s : State) (f : FilterNo) : (s.dequeue f).switch = s.switch := rfl
@[simp] theorem State.dequeue_image (s : State) (f : FilterNo) : (s.dequeue f).image = s.image := rfl
@[simp] theorem State.dequeue_storing (s : State) (f : FilterNo) : (s.dequeue f).storing = s.storing := rfl
@[simp] theorem State.dequeue_history (s : State) (f : FilterNo) : (s.dequeue f).history = s.history := rfl
@[simp] theorem State.dequeue_nextSeq (s : State) (f : FilterNo) : (s.dequeue f).nextSeq = s.nextSeq := rfl

/-! ### withHeader -/

@[simp] theorem State.withHeader_pending (s : State) (h : Header) : (s.withHeader h).pending = s.pending := rfl
@[simp] theorem State.withHeader_draws (s : State) (h : Header) : (s.withHeader h).draws = s.draws := rfl
@[simp] theorem State.withHeader_phase (s : State) (h : Header) : (s.withHeader h).phase = s.phase := rfl
@[simp] theorem State.withHeader_clock (s : State) (h : Header) : (s.withHeader h).clock = s.clock := rfl
@[simp] theorem State.withHeader_hundredth (s : State) (h : Header) : (s.withHeader h).hundredth = s.hundredth := rfl
@[simp] theorem State.withHeader_rate (s : State) (h : Header) : (s.withHeader h).rate = s.rate := rfl
@[simp] theorem State.withHeader_ports (s : State) (h : Header) : (s.withHeader h).ports = s.ports := rfl
@[simp] theorem State.withHeader_filters (s : State) (h : Header) : (s.withHeader h).filters = s.filters := rfl
@[simp] theorem State.withHeader_queue (s : State) (h : Header) : (s.withHeader h).queue = s.queue := rfl
@[simp] theorem State.withHeader_holder (s : State) (h : Header) : (s.withHeader h).holder = s.holder := rfl
@[simp] theorem State.withHeader_budget (s : State) (h : Header) : (s.withHeader h).budget = s.budget := rfl
@[simp] theorem State.withHeader_hold (s : State) (h : Header) : (s.withHeader h).hold = s.hold := rfl
@[simp] theorem State.withHeader_holdFlags (s : State) (h : Header) : (s.withHeader h).holdFlags = s.holdFlags := rfl
@[simp] theorem State.withHeader_outputs (s : State) (h : Header) : (s.withHeader h).outputs = s.outputs := rfl
@[simp] theorem State.withHeader_pumpPair (s : State) (h : Header) : (s.withHeader h).pumpPair = s.pumpPair := rfl
@[simp] theorem State.withHeader_blowerPair (s : State) (h : Header) : (s.withHeader h).blowerPair = s.blowerPair := rfl
@[simp] theorem State.withHeader_inputs (s : State) (h : Header) : (s.withHeader h).inputs = s.inputs := rfl
@[simp] theorem State.withHeader_volume (s : State) (h : Header) : (s.withHeader h).volume = s.volume := rfl
@[simp] theorem State.withHeader_accrual (s : State) (h : Header) : (s.withHeader h).accrual = s.accrual := rfl
@[simp] theorem State.withHeader_normal (s : State) (h : Header) : (s.withHeader h).normal = s.normal := rfl
@[simp] theorem State.withHeader_storm (s : State) (h : Header) : (s.withHeader h).storm = s.storm := rfl
@[simp] theorem State.withHeader_active (s : State) (h : Header) : (s.withHeader h).active = s.active := rfl
@[simp] theorem State.withHeader_plant (s : State) (h : Header) : (s.withHeader h).plant = s.plant := rfl
@[simp] theorem State.withHeader_lock (s : State) (h : Header) : (s.withHeader h).lock = s.lock := rfl
@[simp] theorem State.withHeader_switch (s : State) (h : Header) : (s.withHeader h).switch = s.switch := rfl
@[simp] theorem State.withHeader_image (s : State) (h : Header) : (s.withHeader h).image = s.image := rfl
@[simp] theorem State.withHeader_storing (s : State) (h : Header) : (s.withHeader h).storing = s.storing := rfl
@[simp] theorem State.withHeader_history (s : State) (h : Header) : (s.withHeader h).history = s.history := rfl
@[simp] theorem State.withHeader_nextSeq (s : State) (h : Header) : (s.withHeader h).nextSeq = s.nextSeq := rfl

/-! ### setOutputs -/

@[simp] theorem State.setOutputs_pending (s : State) (o : Lines) (n : Nat) : (s.setOutputs o n).pending = s.pending := rfl
@[simp] theorem State.setOutputs_draws (s : State) (o : Lines) (n : Nat) : (s.setOutputs o n).draws = s.draws := rfl
@[simp] theorem State.setOutputs_phase (s : State) (o : Lines) (n : Nat) : (s.setOutputs o n).phase = s.phase := rfl
@[simp] theorem State.setOutputs_clock (s : State) (o : Lines) (n : Nat) : (s.setOutputs o n).clock = s.clock := rfl
@[simp] theorem State.setOutputs_hundredth (s : State) (o : Lines) (n : Nat) : (s.setOutputs o n).hundredth = s.hundredth := rfl
@[simp] theorem State.setOutputs_rate (s : State) (o : Lines) (n : Nat) : (s.setOutputs o n).rate = s.rate := rfl
@[simp] theorem State.setOutputs_ports (s : State) (o : Lines) (n : Nat) : (s.setOutputs o n).ports = s.ports := rfl
@[simp] theorem State.setOutputs_filters (s : State) (o : Lines) (n : Nat) : (s.setOutputs o n).filters = s.filters := rfl
@[simp] theorem State.setOutputs_queue (s : State) (o : Lines) (n : Nat) : (s.setOutputs o n).queue = s.queue := rfl
@[simp] theorem State.setOutputs_holder (s : State) (o : Lines) (n : Nat) : (s.setOutputs o n).holder = s.holder := rfl
@[simp] theorem State.setOutputs_budget (s : State) (o : Lines) (n : Nat) : (s.setOutputs o n).budget = s.budget := rfl
@[simp] theorem State.setOutputs_hold (s : State) (o : Lines) (n : Nat) : (s.setOutputs o n).hold = s.hold := rfl
@[simp] theorem State.setOutputs_holdFlags (s : State) (o : Lines) (n : Nat) : (s.setOutputs o n).holdFlags = s.holdFlags := rfl
@[simp] theorem State.setOutputs_header (s : State) (o : Lines) (n : Nat) : (s.setOutputs o n).header = s.header := rfl
@[simp] theorem State.setOutputs_inputs (s : State) (o : Lines) (n : Nat) : (s.setOutputs o n).inputs = s.inputs := rfl
@[simp] theorem State.setOutputs_volume (s : State) (o : Lines) (n : Nat) : (s.setOutputs o n).volume = s.volume := rfl
@[simp] theorem State.setOutputs_accrual (s : State) (o : Lines) (n : Nat) : (s.setOutputs o n).accrual = s.accrual := rfl
@[simp] theorem State.setOutputs_normal (s : State) (o : Lines) (n : Nat) : (s.setOutputs o n).normal = s.normal := rfl
@[simp] theorem State.setOutputs_storm (s : State) (o : Lines) (n : Nat) : (s.setOutputs o n).storm = s.storm := rfl
@[simp] theorem State.setOutputs_active (s : State) (o : Lines) (n : Nat) : (s.setOutputs o n).active = s.active := rfl
@[simp] theorem State.setOutputs_plant (s : State) (o : Lines) (n : Nat) : (s.setOutputs o n).plant = s.plant := rfl
@[simp] theorem State.setOutputs_lock (s : State) (o : Lines) (n : Nat) : (s.setOutputs o n).lock = s.lock := rfl
@[simp] theorem State.setOutputs_switch (s : State) (o : Lines) (n : Nat) : (s.setOutputs o n).switch = s.switch := rfl
@[simp] theorem State.setOutputs_image (s : State) (o : Lines) (n : Nat) : (s.setOutputs o n).image = s.image := rfl
@[simp] theorem State.setOutputs_storing (s : State) (o : Lines) (n : Nat) : (s.setOutputs o n).storing = s.storing := rfl
@[simp] theorem State.setOutputs_history (s : State) (o : Lines) (n : Nat) : (s.setOutputs o n).history = s.history := rfl
@[simp] theorem State.setOutputs_nextSeq (s : State) (o : Lines) (n : Nat) : (s.setOutputs o n).nextSeq = s.nextSeq := rfl

/-! ### setVolume -/

@[simp] theorem State.setVolume_pending (s : State) (v : Nat) : (s.setVolume v).pending = s.pending := rfl
@[simp] theorem State.setVolume_draws (s : State) (v : Nat) : (s.setVolume v).draws = s.draws := rfl
@[simp] theorem State.setVolume_phase (s : State) (v : Nat) : (s.setVolume v).phase = s.phase := rfl
@[simp] theorem State.setVolume_clock (s : State) (v : Nat) : (s.setVolume v).clock = s.clock := rfl
@[simp] theorem State.setVolume_hundredth (s : State) (v : Nat) : (s.setVolume v).hundredth = s.hundredth := rfl
@[simp] theorem State.setVolume_rate (s : State) (v : Nat) : (s.setVolume v).rate = s.rate := rfl
@[simp] theorem State.setVolume_ports (s : State) (v : Nat) : (s.setVolume v).ports = s.ports := rfl
@[simp] theorem State.setVolume_filters (s : State) (v : Nat) : (s.setVolume v).filters = s.filters := rfl
@[simp] theorem State.setVolume_queue (s : State) (v : Nat) : (s.setVolume v).queue = s.queue := rfl
@[simp] theorem State.setVolume_holder (s : State) (v : Nat) : (s.setVolume v).holder = s.holder := rfl
@[simp] theorem State.setVolume_budget (s : State) (v : Nat) : (s.setVolume v).budget = s.budget := rfl
@[simp] theorem State.setVolume_hold (s : State) (v : Nat) : (s.setVolume v).hold = s.hold := rfl
@[simp] theorem State.setVolume_holdFlags (s : State) (v : Nat) : (s.setVolume v).holdFlags = s.holdFlags := rfl
@[simp] theorem State.setVolume_header (s : State) (v : Nat) : (s.setVolume v).header = s.header := rfl
@[simp] theorem State.setVolume_outputs (s : State) (v : Nat) : (s.setVolume v).outputs = s.outputs := rfl
@[simp] theorem State.setVolume_pumpPair (s : State) (v : Nat) : (s.setVolume v).pumpPair = s.pumpPair := rfl
@[simp] theorem State.setVolume_blowerPair (s : State) (v : Nat) : (s.setVolume v).blowerPair = s.blowerPair := rfl
@[simp] theorem State.setVolume_inputs (s : State) (v : Nat) : (s.setVolume v).inputs = s.inputs := rfl
@[simp] theorem State.setVolume_normal (s : State) (v : Nat) : (s.setVolume v).normal = s.normal := rfl
@[simp] theorem State.setVolume_storm (s : State) (v : Nat) : (s.setVolume v).storm = s.storm := rfl
@[simp] theorem State.setVolume_active (s : State) (v : Nat) : (s.setVolume v).active = s.active := rfl
@[simp] theorem State.setVolume_plant (s : State) (v : Nat) : (s.setVolume v).plant = s.plant := rfl
@[simp] theorem State.setVolume_lock (s : State) (v : Nat) : (s.setVolume v).lock = s.lock := rfl
@[simp] theorem State.setVolume_switch (s : State) (v : Nat) : (s.setVolume v).switch = s.switch := rfl
@[simp] theorem State.setVolume_image (s : State) (v : Nat) : (s.setVolume v).image = s.image := rfl
@[simp] theorem State.setVolume_storing (s : State) (v : Nat) : (s.setVolume v).storing = s.storing := rfl
@[simp] theorem State.setVolume_history (s : State) (v : Nat) : (s.setVolume v).history = s.history := rfl
@[simp] theorem State.setVolume_nextSeq (s : State) (v : Nat) : (s.setVolume v).nextSeq = s.nextSeq := rfl

/-! ### addToWash -/

@[simp] theorem State.addToWash_pending (s : State) (n : Nat) : (s.addToWash n).pending = s.pending := rfl
@[simp] theorem State.addToWash_draws (s : State) (n : Nat) : (s.addToWash n).draws = s.draws := rfl
@[simp] theorem State.addToWash_phase (s : State) (n : Nat) : (s.addToWash n).phase = s.phase := rfl
@[simp] theorem State.addToWash_clock (s : State) (n : Nat) : (s.addToWash n).clock = s.clock := rfl
@[simp] theorem State.addToWash_hundredth (s : State) (n : Nat) : (s.addToWash n).hundredth = s.hundredth := rfl
@[simp] theorem State.addToWash_rate (s : State) (n : Nat) : (s.addToWash n).rate = s.rate := rfl
@[simp] theorem State.addToWash_ports (s : State) (n : Nat) : (s.addToWash n).ports = s.ports := rfl
@[simp] theorem State.addToWash_filters (s : State) (n : Nat) : (s.addToWash n).filters = s.filters := rfl
@[simp] theorem State.addToWash_queue (s : State) (n : Nat) : (s.addToWash n).queue = s.queue := rfl
@[simp] theorem State.addToWash_holder (s : State) (n : Nat) : (s.addToWash n).holder = s.holder := rfl
@[simp] theorem State.addToWash_budget (s : State) (n : Nat) : (s.addToWash n).budget = s.budget := rfl
@[simp] theorem State.addToWash_hold (s : State) (n : Nat) : (s.addToWash n).hold = s.hold := rfl
@[simp] theorem State.addToWash_holdFlags (s : State) (n : Nat) : (s.addToWash n).holdFlags = s.holdFlags := rfl
@[simp] theorem State.addToWash_outputs (s : State) (n : Nat) : (s.addToWash n).outputs = s.outputs := rfl
@[simp] theorem State.addToWash_pumpPair (s : State) (n : Nat) : (s.addToWash n).pumpPair = s.pumpPair := rfl
@[simp] theorem State.addToWash_blowerPair (s : State) (n : Nat) : (s.addToWash n).blowerPair = s.blowerPair := rfl
@[simp] theorem State.addToWash_inputs (s : State) (n : Nat) : (s.addToWash n).inputs = s.inputs := rfl
@[simp] theorem State.addToWash_volume (s : State) (n : Nat) : (s.addToWash n).volume = s.volume := rfl
@[simp] theorem State.addToWash_accrual (s : State) (n : Nat) : (s.addToWash n).accrual = s.accrual := rfl
@[simp] theorem State.addToWash_normal (s : State) (n : Nat) : (s.addToWash n).normal = s.normal := rfl
@[simp] theorem State.addToWash_storm (s : State) (n : Nat) : (s.addToWash n).storm = s.storm := rfl
@[simp] theorem State.addToWash_active (s : State) (n : Nat) : (s.addToWash n).active = s.active := rfl
@[simp] theorem State.addToWash_plant (s : State) (n : Nat) : (s.addToWash n).plant = s.plant := rfl
@[simp] theorem State.addToWash_lock (s : State) (n : Nat) : (s.addToWash n).lock = s.lock := rfl
@[simp] theorem State.addToWash_switch (s : State) (n : Nat) : (s.addToWash n).switch = s.switch := rfl
@[simp] theorem State.addToWash_image (s : State) (n : Nat) : (s.addToWash n).image = s.image := rfl
@[simp] theorem State.addToWash_storing (s : State) (n : Nat) : (s.addToWash n).storing = s.storing := rfl
@[simp] theorem State.addToWash_history (s : State) (n : Nat) : (s.addToWash n).history = s.history := rfl
@[simp] theorem State.addToWash_nextSeq (s : State) (n : Nat) : (s.addToWash n).nextSeq = s.nextSeq := rfl

/-! ### appendHistory -/

@[simp] theorem State.appendHistory_pending (s : State) (x : HistoryRecord) : (s.appendHistory x).pending = s.pending := by rfl
@[simp] theorem State.appendHistory_draws (s : State) (x : HistoryRecord) : (s.appendHistory x).draws = s.draws := by rfl
@[simp] theorem State.appendHistory_phase (s : State) (x : HistoryRecord) : (s.appendHistory x).phase = s.phase := by rfl
@[simp] theorem State.appendHistory_clock (s : State) (x : HistoryRecord) : (s.appendHistory x).clock = s.clock := by rfl
@[simp] theorem State.appendHistory_hundredth (s : State) (x : HistoryRecord) : (s.appendHistory x).hundredth = s.hundredth := by rfl
@[simp] theorem State.appendHistory_rate (s : State) (x : HistoryRecord) : (s.appendHistory x).rate = s.rate := by rfl
@[simp] theorem State.appendHistory_ports (s : State) (x : HistoryRecord) : (s.appendHistory x).ports = s.ports := by rfl
@[simp] theorem State.appendHistory_filters (s : State) (x : HistoryRecord) : (s.appendHistory x).filters = s.filters := by rfl
@[simp] theorem State.appendHistory_queue (s : State) (x : HistoryRecord) : (s.appendHistory x).queue = s.queue := by rfl
@[simp] theorem State.appendHistory_holder (s : State) (x : HistoryRecord) : (s.appendHistory x).holder = s.holder := by rfl
@[simp] theorem State.appendHistory_budget (s : State) (x : HistoryRecord) : (s.appendHistory x).budget = s.budget := by rfl
@[simp] theorem State.appendHistory_hold (s : State) (x : HistoryRecord) : (s.appendHistory x).hold = s.hold := by rfl
@[simp] theorem State.appendHistory_holdFlags (s : State) (x : HistoryRecord) : (s.appendHistory x).holdFlags = s.holdFlags := by rfl
@[simp] theorem State.appendHistory_header (s : State) (x : HistoryRecord) : (s.appendHistory x).header = s.header := by rfl
@[simp] theorem State.appendHistory_outputs (s : State) (x : HistoryRecord) : (s.appendHistory x).outputs = s.outputs := by rfl
@[simp] theorem State.appendHistory_pumpPair (s : State) (x : HistoryRecord) : (s.appendHistory x).pumpPair = s.pumpPair := by rfl
@[simp] theorem State.appendHistory_blowerPair (s : State) (x : HistoryRecord) : (s.appendHistory x).blowerPair = s.blowerPair := by rfl
@[simp] theorem State.appendHistory_inputs (s : State) (x : HistoryRecord) : (s.appendHistory x).inputs = s.inputs := by rfl
@[simp] theorem State.appendHistory_volume (s : State) (x : HistoryRecord) : (s.appendHistory x).volume = s.volume := by rfl
@[simp] theorem State.appendHistory_accrual (s : State) (x : HistoryRecord) : (s.appendHistory x).accrual = s.accrual := by rfl
@[simp] theorem State.appendHistory_normal (s : State) (x : HistoryRecord) : (s.appendHistory x).normal = s.normal := by rfl
@[simp] theorem State.appendHistory_storm (s : State) (x : HistoryRecord) : (s.appendHistory x).storm = s.storm := by rfl
@[simp] theorem State.appendHistory_active (s : State) (x : HistoryRecord) : (s.appendHistory x).active = s.active := by rfl
@[simp] theorem State.appendHistory_plant (s : State) (x : HistoryRecord) : (s.appendHistory x).plant = s.plant := by rfl
@[simp] theorem State.appendHistory_lock (s : State) (x : HistoryRecord) : (s.appendHistory x).lock = s.lock := by rfl
@[simp] theorem State.appendHistory_switch (s : State) (x : HistoryRecord) : (s.appendHistory x).switch = s.switch := by rfl
@[simp] theorem State.appendHistory_image (s : State) (x : HistoryRecord) : (s.appendHistory x).image = s.image := by rfl
@[simp] theorem State.appendHistory_storing (s : State) (x : HistoryRecord) : (s.appendHistory x).storing = s.storing := by rfl

/-! ### setInput -/

@[simp] theorem State.setInput_pending (s : State) (i : Input) (v : InputLine) : (s.setInput i v).pending = s.pending := rfl
@[simp] theorem State.setInput_draws (s : State) (i : Input) (v : InputLine) : (s.setInput i v).draws = s.draws := rfl
@[simp] theorem State.setInput_phase (s : State) (i : Input) (v : InputLine) : (s.setInput i v).phase = s.phase := rfl
@[simp] theorem State.setInput_clock (s : State) (i : Input) (v : InputLine) : (s.setInput i v).clock = s.clock := rfl
@[simp] theorem State.setInput_hundredth (s : State) (i : Input) (v : InputLine) : (s.setInput i v).hundredth = s.hundredth := rfl
@[simp] theorem State.setInput_rate (s : State) (i : Input) (v : InputLine) : (s.setInput i v).rate = s.rate := rfl
@[simp] theorem State.setInput_ports (s : State) (i : Input) (v : InputLine) : (s.setInput i v).ports = s.ports := rfl
@[simp] theorem State.setInput_filters (s : State) (i : Input) (v : InputLine) : (s.setInput i v).filters = s.filters := rfl
@[simp] theorem State.setInput_queue (s : State) (i : Input) (v : InputLine) : (s.setInput i v).queue = s.queue := rfl
@[simp] theorem State.setInput_holder (s : State) (i : Input) (v : InputLine) : (s.setInput i v).holder = s.holder := rfl
@[simp] theorem State.setInput_budget (s : State) (i : Input) (v : InputLine) : (s.setInput i v).budget = s.budget := rfl
@[simp] theorem State.setInput_hold (s : State) (i : Input) (v : InputLine) : (s.setInput i v).hold = s.hold := rfl
@[simp] theorem State.setInput_holdFlags (s : State) (i : Input) (v : InputLine) : (s.setInput i v).holdFlags = s.holdFlags := rfl
@[simp] theorem State.setInput_header (s : State) (i : Input) (v : InputLine) : (s.setInput i v).header = s.header := rfl
@[simp] theorem State.setInput_outputs (s : State) (i : Input) (v : InputLine) : (s.setInput i v).outputs = s.outputs := rfl
@[simp] theorem State.setInput_pumpPair (s : State) (i : Input) (v : InputLine) : (s.setInput i v).pumpPair = s.pumpPair := rfl
@[simp] theorem State.setInput_blowerPair (s : State) (i : Input) (v : InputLine) : (s.setInput i v).blowerPair = s.blowerPair := rfl
@[simp] theorem State.setInput_volume (s : State) (i : Input) (v : InputLine) : (s.setInput i v).volume = s.volume := rfl
@[simp] theorem State.setInput_accrual (s : State) (i : Input) (v : InputLine) : (s.setInput i v).accrual = s.accrual := rfl
@[simp] theorem State.setInput_normal (s : State) (i : Input) (v : InputLine) : (s.setInput i v).normal = s.normal := rfl
@[simp] theorem State.setInput_storm (s : State) (i : Input) (v : InputLine) : (s.setInput i v).storm = s.storm := rfl
@[simp] theorem State.setInput_active (s : State) (i : Input) (v : InputLine) : (s.setInput i v).active = s.active := rfl
@[simp] theorem State.setInput_plant (s : State) (i : Input) (v : InputLine) : (s.setInput i v).plant = s.plant := rfl
@[simp] theorem State.setInput_lock (s : State) (i : Input) (v : InputLine) : (s.setInput i v).lock = s.lock := rfl
@[simp] theorem State.setInput_switch (s : State) (i : Input) (v : InputLine) : (s.setInput i v).switch = s.switch := rfl
@[simp] theorem State.setInput_image (s : State) (i : Input) (v : InputLine) : (s.setInput i v).image = s.image := rfl
@[simp] theorem State.setInput_storing (s : State) (i : Input) (v : InputLine) : (s.setInput i v).storing = s.storing := rfl
@[simp] theorem State.setInput_history (s : State) (i : Input) (v : InputLine) : (s.setInput i v).history = s.history := rfl
@[simp] theorem State.setInput_nextSeq (s : State) (i : Input) (v : InputLine) : (s.setInput i v).nextSeq = s.nextSeq := rfl

/-! ### setPair -/

@[simp] theorem State.setPair_pending (s : State) (v : Supervision) (pair : Pair) : (s.setPair v pair).pending = s.pending := by cases pair <;> rfl
@[simp] theorem State.setPair_draws (s : State) (v : Supervision) (pair : Pair) : (s.setPair v pair).draws = s.draws := by cases pair <;> rfl
@[simp] theorem State.setPair_phase (s : State) (v : Supervision) (pair : Pair) : (s.setPair v pair).phase = s.phase := by cases pair <;> rfl
@[simp] theorem State.setPair_clock (s : State) (v : Supervision) (pair : Pair) : (s.setPair v pair).clock = s.clock := by cases pair <;> rfl
@[simp] theorem State.setPair_hundredth (s : State) (v : Supervision) (pair : Pair) : (s.setPair v pair).hundredth = s.hundredth := by cases pair <;> rfl
@[simp] theorem State.setPair_rate (s : State) (v : Supervision) (pair : Pair) : (s.setPair v pair).rate = s.rate := by cases pair <;> rfl
@[simp] theorem State.setPair_ports (s : State) (v : Supervision) (pair : Pair) : (s.setPair v pair).ports = s.ports := by cases pair <;> rfl
@[simp] theorem State.setPair_filters (s : State) (v : Supervision) (pair : Pair) : (s.setPair v pair).filters = s.filters := by cases pair <;> rfl
@[simp] theorem State.setPair_queue (s : State) (v : Supervision) (pair : Pair) : (s.setPair v pair).queue = s.queue := by cases pair <;> rfl
@[simp] theorem State.setPair_holder (s : State) (v : Supervision) (pair : Pair) : (s.setPair v pair).holder = s.holder := by cases pair <;> rfl
@[simp] theorem State.setPair_budget (s : State) (v : Supervision) (pair : Pair) : (s.setPair v pair).budget = s.budget := by cases pair <;> rfl
@[simp] theorem State.setPair_hold (s : State) (v : Supervision) (pair : Pair) : (s.setPair v pair).hold = s.hold := by cases pair <;> rfl
@[simp] theorem State.setPair_holdFlags (s : State) (v : Supervision) (pair : Pair) : (s.setPair v pair).holdFlags = s.holdFlags := by cases pair <;> rfl
@[simp] theorem State.setPair_header (s : State) (v : Supervision) (pair : Pair) : (s.setPair v pair).header = s.header := by cases pair <;> rfl
@[simp] theorem State.setPair_outputs (s : State) (v : Supervision) (pair : Pair) : (s.setPair v pair).outputs = s.outputs := by cases pair <;> rfl
@[simp] theorem State.setPair_inputs (s : State) (v : Supervision) (pair : Pair) : (s.setPair v pair).inputs = s.inputs := by cases pair <;> rfl
@[simp] theorem State.setPair_volume (s : State) (v : Supervision) (pair : Pair) : (s.setPair v pair).volume = s.volume := by cases pair <;> rfl
@[simp] theorem State.setPair_accrual (s : State) (v : Supervision) (pair : Pair) : (s.setPair v pair).accrual = s.accrual := by cases pair <;> rfl
@[simp] theorem State.setPair_normal (s : State) (v : Supervision) (pair : Pair) : (s.setPair v pair).normal = s.normal := by cases pair <;> rfl
@[simp] theorem State.setPair_storm (s : State) (v : Supervision) (pair : Pair) : (s.setPair v pair).storm = s.storm := by cases pair <;> rfl
@[simp] theorem State.setPair_active (s : State) (v : Supervision) (pair : Pair) : (s.setPair v pair).active = s.active := by cases pair <;> rfl
@[simp] theorem State.setPair_plant (s : State) (v : Supervision) (pair : Pair) : (s.setPair v pair).plant = s.plant := by cases pair <;> rfl
@[simp] theorem State.setPair_lock (s : State) (v : Supervision) (pair : Pair) : (s.setPair v pair).lock = s.lock := by cases pair <;> rfl
@[simp] theorem State.setPair_switch (s : State) (v : Supervision) (pair : Pair) : (s.setPair v pair).switch = s.switch := by cases pair <;> rfl
@[simp] theorem State.setPair_image (s : State) (v : Supervision) (pair : Pair) : (s.setPair v pair).image = s.image := by cases pair <;> rfl
@[simp] theorem State.setPair_storing (s : State) (v : Supervision) (pair : Pair) : (s.setPair v pair).storing = s.storing := by cases pair <;> rfl
@[simp] theorem State.setPair_history (s : State) (v : Supervision) (pair : Pair) : (s.setPair v pair).history = s.history := by cases pair <;> rfl
@[simp] theorem State.setPair_nextSeq (s : State) (v : Supervision) (pair : Pair) : (s.setPair v pair).nextSeq = s.nextSeq := by cases pair <;> rfl

/-! ### setBank -/

@[simp] theorem State.setBank_pending (s : State) (b : Bank) (k : BankId) : (s.setBank b k).pending = s.pending := by cases k <;> rfl
@[simp] theorem State.setBank_draws (s : State) (b : Bank) (k : BankId) : (s.setBank b k).draws = s.draws := by cases k <;> rfl
@[simp] theorem State.setBank_phase (s : State) (b : Bank) (k : BankId) : (s.setBank b k).phase = s.phase := by cases k <;> rfl
@[simp] theorem State.setBank_clock (s : State) (b : Bank) (k : BankId) : (s.setBank b k).clock = s.clock := by cases k <;> rfl
@[simp] theorem State.setBank_hundredth (s : State) (b : Bank) (k : BankId) : (s.setBank b k).hundredth = s.hundredth := by cases k <;> rfl
@[simp] theorem State.setBank_rate (s : State) (b : Bank) (k : BankId) : (s.setBank b k).rate = s.rate := by cases k <;> rfl
@[simp] theorem State.setBank_ports (s : State) (b : Bank) (k : BankId) : (s.setBank b k).ports = s.ports := by cases k <;> rfl
@[simp] theorem State.setBank_filters (s : State) (b : Bank) (k : BankId) : (s.setBank b k).filters = s.filters := by cases k <;> rfl
@[simp] theorem State.setBank_queue (s : State) (b : Bank) (k : BankId) : (s.setBank b k).queue = s.queue := by cases k <;> rfl
@[simp] theorem State.setBank_holder (s : State) (b : Bank) (k : BankId) : (s.setBank b k).holder = s.holder := by cases k <;> rfl
@[simp] theorem State.setBank_budget (s : State) (b : Bank) (k : BankId) : (s.setBank b k).budget = s.budget := by cases k <;> rfl
@[simp] theorem State.setBank_hold (s : State) (b : Bank) (k : BankId) : (s.setBank b k).hold = s.hold := by cases k <;> rfl
@[simp] theorem State.setBank_holdFlags (s : State) (b : Bank) (k : BankId) : (s.setBank b k).holdFlags = s.holdFlags := by cases k <;> rfl
@[simp] theorem State.setBank_header (s : State) (b : Bank) (k : BankId) : (s.setBank b k).header = s.header := by cases k <;> rfl
@[simp] theorem State.setBank_outputs (s : State) (b : Bank) (k : BankId) : (s.setBank b k).outputs = s.outputs := by cases k <;> rfl
@[simp] theorem State.setBank_pumpPair (s : State) (b : Bank) (k : BankId) : (s.setBank b k).pumpPair = s.pumpPair := by cases k <;> rfl
@[simp] theorem State.setBank_blowerPair (s : State) (b : Bank) (k : BankId) : (s.setBank b k).blowerPair = s.blowerPair := by cases k <;> rfl
@[simp] theorem State.setBank_inputs (s : State) (b : Bank) (k : BankId) : (s.setBank b k).inputs = s.inputs := by cases k <;> rfl
@[simp] theorem State.setBank_volume (s : State) (b : Bank) (k : BankId) : (s.setBank b k).volume = s.volume := by cases k <;> rfl
@[simp] theorem State.setBank_accrual (s : State) (b : Bank) (k : BankId) : (s.setBank b k).accrual = s.accrual := by cases k <;> rfl
@[simp] theorem State.setBank_active (s : State) (b : Bank) (k : BankId) : (s.setBank b k).active = s.active := by cases k <;> rfl
@[simp] theorem State.setBank_plant (s : State) (b : Bank) (k : BankId) : (s.setBank b k).plant = s.plant := by cases k <;> rfl
@[simp] theorem State.setBank_lock (s : State) (b : Bank) (k : BankId) : (s.setBank b k).lock = s.lock := by cases k <;> rfl
@[simp] theorem State.setBank_switch (s : State) (b : Bank) (k : BankId) : (s.setBank b k).switch = s.switch := by cases k <;> rfl
@[simp] theorem State.setBank_image (s : State) (b : Bank) (k : BankId) : (s.setBank b k).image = s.image := by cases k <;> rfl
@[simp] theorem State.setBank_storing (s : State) (b : Bank) (k : BankId) : (s.setBank b k).storing = s.storing := by cases k <;> rfl
@[simp] theorem State.setBank_history (s : State) (b : Bank) (k : BankId) : (s.setBank b k).history = s.history := by cases k <;> rfl
@[simp] theorem State.setBank_nextSeq (s : State) (b : Bank) (k : BankId) : (s.setBank b k).nextSeq = s.nextSeq := by cases k <;> rfl

end Sys2Proof.Machine
end

