-- ==== Sys2Proof/Laws/Frames.lean ====
section
/-! SUPPORT. What each shared operation leaves unchanged, said once: the operations' frames, which later proofs cite. -/

namespace Sys2Proof.Machine

@[simp] theorem State.postTo_frame (s : State) (p : PortNo) (n : Notice) :
    (s.postTo p n).pending = s.pending ∧ (s.postTo p n).draws = s.draws ∧ (s.postTo p n).phase = s.phase ∧
    (s.postTo p n).clock = s.clock ∧ (s.postTo p n).hundredth = s.hundredth ∧ (s.postTo p n).rate = s.rate ∧
    (s.postTo p n).filters = s.filters ∧ (s.postTo p n).queue = s.queue ∧ (s.postTo p n).holder = s.holder ∧
    (s.postTo p n).budget = s.budget ∧ (s.postTo p n).hold = s.hold ∧ (s.postTo p n).holdFlags = s.holdFlags ∧
    (s.postTo p n).header = s.header ∧ (s.postTo p n).outputs = s.outputs ∧ (s.postTo p n).pumpPair = s.pumpPair ∧
    (s.postTo p n).blowerPair = s.blowerPair ∧ (s.postTo p n).inputs = s.inputs ∧ (s.postTo p n).volume = s.volume ∧
    (s.postTo p n).accrual = s.accrual ∧ (s.postTo p n).normal = s.normal ∧ (s.postTo p n).storm = s.storm ∧
    (s.postTo p n).active = s.active ∧ (s.postTo p n).plant = s.plant ∧ (s.postTo p n).lock = s.lock ∧
    (s.postTo p n).switch = s.switch ∧ (s.postTo p n).image = s.image ∧ (s.postTo p n).storing = s.storing ∧
    (s.postTo p n).history = s.history ∧ (s.postTo p n).nextSeq = s.nextSeq := by
  simp [State.postTo]

@[simp] theorem State.postAttached_frame (s : State) (n : Notice) :
    (s.postAttached n).pending = s.pending ∧ (s.postAttached n).draws = s.draws ∧
    (s.postAttached n).phase = s.phase ∧ (s.postAttached n).clock = s.clock ∧
    (s.postAttached n).hundredth = s.hundredth ∧ (s.postAttached n).rate = s.rate ∧
    (s.postAttached n).filters = s.filters ∧ (s.postAttached n).queue = s.queue ∧
    (s.postAttached n).holder = s.holder ∧ (s.postAttached n).budget = s.budget ∧ (s.postAttached n).hold = s.hold ∧
    (s.postAttached n).holdFlags = s.holdFlags ∧ (s.postAttached n).header = s.header ∧
    (s.postAttached n).outputs = s.outputs ∧ (s.postAttached n).pumpPair = s.pumpPair ∧
    (s.postAttached n).blowerPair = s.blowerPair ∧ (s.postAttached n).inputs = s.inputs ∧
    (s.postAttached n).volume = s.volume ∧ (s.postAttached n).accrual = s.accrual ∧
    (s.postAttached n).normal = s.normal ∧ (s.postAttached n).storm = s.storm ∧
    (s.postAttached n).active = s.active ∧ (s.postAttached n).plant = s.plant ∧ (s.postAttached n).lock = s.lock ∧
    (s.postAttached n).switch = s.switch ∧ (s.postAttached n).image = s.image ∧
    (s.postAttached n).storing = s.storing ∧ (s.postAttached n).history = s.history ∧
    (s.postAttached n).nextSeq = s.nextSeq := by
  simp [State.postAttached]

@[simp] theorem State.postPeers_frame (s : State) (p : PortNo) :
    (s.postPeers p).pending = s.pending ∧ (s.postPeers p).draws = s.draws ∧ (s.postPeers p).phase = s.phase ∧
    (s.postPeers p).clock = s.clock ∧ (s.postPeers p).hundredth = s.hundredth ∧ (s.postPeers p).rate = s.rate ∧
    (s.postPeers p).filters = s.filters ∧ (s.postPeers p).queue = s.queue ∧ (s.postPeers p).holder = s.holder ∧
    (s.postPeers p).budget = s.budget ∧ (s.postPeers p).hold = s.hold ∧ (s.postPeers p).holdFlags = s.holdFlags ∧
    (s.postPeers p).header = s.header ∧ (s.postPeers p).outputs = s.outputs ∧ (s.postPeers p).pumpPair = s.pumpPair ∧
    (s.postPeers p).blowerPair = s.blowerPair ∧ (s.postPeers p).inputs = s.inputs ∧
    (s.postPeers p).volume = s.volume ∧ (s.postPeers p).accrual = s.accrual ∧ (s.postPeers p).normal = s.normal ∧
    (s.postPeers p).storm = s.storm ∧ (s.postPeers p).active = s.active ∧ (s.postPeers p).plant = s.plant ∧
    (s.postPeers p).lock = s.lock ∧ (s.postPeers p).switch = s.switch ∧ (s.postPeers p).image = s.image ∧
    (s.postPeers p).storing = s.storing ∧ (s.postPeers p).history = s.history ∧ (s.postPeers p).nextSeq = s.nextSeq := by
  simp [State.postPeers]

@[simp] theorem State.mapFilter_frame (s : State) (f : FilterNo) (g : Filter → Filter) :
    (s.mapFilter f g).pending = s.pending ∧ (s.mapFilter f g).draws = s.draws ∧ (s.mapFilter f g).phase = s.phase ∧
    (s.mapFilter f g).clock = s.clock ∧ (s.mapFilter f g).hundredth = s.hundredth ∧ (s.mapFilter f g).rate = s.rate ∧
    (s.mapFilter f g).ports = s.ports ∧ (s.mapFilter f g).queue = s.queue ∧ (s.mapFilter f g).holder = s.holder ∧
    (s.mapFilter f g).budget = s.budget ∧ (s.mapFilter f g).hold = s.hold ∧
    (s.mapFilter f g).holdFlags = s.holdFlags ∧ (s.mapFilter f g).header = s.header ∧
    (s.mapFilter f g).outputs = s.outputs ∧ (s.mapFilter f g).pumpPair = s.pumpPair ∧
    (s.mapFilter f g).blowerPair = s.blowerPair ∧ (s.mapFilter f g).inputs = s.inputs ∧
    (s.mapFilter f g).volume = s.volume ∧ (s.mapFilter f g).accrual = s.accrual ∧
    (s.mapFilter f g).normal = s.normal ∧ (s.mapFilter f g).storm = s.storm ∧ (s.mapFilter f g).active = s.active ∧
    (s.mapFilter f g).plant = s.plant ∧ (s.mapFilter f g).lock = s.lock ∧ (s.mapFilter f g).switch = s.switch ∧
    (s.mapFilter f g).image = s.image ∧ (s.mapFilter f g).storing = s.storing ∧
    (s.mapFilter f g).history = s.history ∧ (s.mapFilter f g).nextSeq = s.nextSeq := by
  simp [State.mapFilter]

@[simp] theorem State.setService_frame (s : State) (f : FilterNo) (v : Service) :
    (s.setService f v).pending = s.pending ∧ (s.setService f v).draws = s.draws ∧
    (s.setService f v).phase = s.phase ∧ (s.setService f v).clock = s.clock ∧
    (s.setService f v).hundredth = s.hundredth ∧ (s.setService f v).rate = s.rate ∧
    (s.setService f v).ports = s.ports ∧ (s.setService f v).queue = s.queue ∧ (s.setService f v).holder = s.holder ∧
    (s.setService f v).budget = s.budget ∧ (s.setService f v).hold = s.hold ∧
    (s.setService f v).holdFlags = s.holdFlags ∧ (s.setService f v).header = s.header ∧
    (s.setService f v).outputs = s.outputs ∧ (s.setService f v).pumpPair = s.pumpPair ∧
    (s.setService f v).blowerPair = s.blowerPair ∧ (s.setService f v).inputs = s.inputs ∧
    (s.setService f v).volume = s.volume ∧ (s.setService f v).accrual = s.accrual ∧
    (s.setService f v).normal = s.normal ∧ (s.setService f v).storm = s.storm ∧
    (s.setService f v).active = s.active ∧ (s.setService f v).plant = s.plant ∧ (s.setService f v).lock = s.lock ∧
    (s.setService f v).switch = s.switch ∧ (s.setService f v).image = s.image ∧
    (s.setService f v).storing = s.storing ∧ (s.setService f v).history = s.history ∧
    (s.setService f v).nextSeq = s.nextSeq := by
  simp [State.setService]

@[simp] theorem State.addReasons_frame (s : State) (f : FilterNo) (new : Reasons) :
    (s.addReasons f new).pending = s.pending ∧ (s.addReasons f new).draws = s.draws ∧
    (s.addReasons f new).phase = s.phase ∧ (s.addReasons f new).clock = s.clock ∧
    (s.addReasons f new).hundredth = s.hundredth ∧ (s.addReasons f new).rate = s.rate ∧
    (s.addReasons f new).ports = s.ports ∧ (s.addReasons f new).holder = s.holder ∧
    (s.addReasons f new).budget = s.budget ∧ (s.addReasons f new).hold = s.hold ∧
    (s.addReasons f new).holdFlags = s.holdFlags ∧ (s.addReasons f new).header = s.header ∧
    (s.addReasons f new).outputs = s.outputs ∧ (s.addReasons f new).pumpPair = s.pumpPair ∧
    (s.addReasons f new).blowerPair = s.blowerPair ∧ (s.addReasons f new).inputs = s.inputs ∧
    (s.addReasons f new).volume = s.volume ∧ (s.addReasons f new).accrual = s.accrual ∧
    (s.addReasons f new).normal = s.normal ∧ (s.addReasons f new).storm = s.storm ∧
    (s.addReasons f new).active = s.active ∧ (s.addReasons f new).plant = s.plant ∧
    (s.addReasons f new).lock = s.lock ∧ (s.addReasons f new).switch = s.switch ∧
    (s.addReasons f new).image = s.image ∧ (s.addReasons f new).storing = s.storing ∧
    (s.addReasons f new).history = s.history ∧ (s.addReasons f new).nextSeq = s.nextSeq := by
  unfold State.addReasons
  dsimp only
  (repeat' split) <;> simp

@[simp] theorem State.expireRunTime_frame (s : State) (f : FilterNo) :
    (s.expireRunTime f).pending = s.pending ∧ (s.expireRunTime f).draws = s.draws ∧
    (s.expireRunTime f).phase = s.phase ∧ (s.expireRunTime f).clock = s.clock ∧
    (s.expireRunTime f).hundredth = s.hundredth ∧ (s.expireRunTime f).rate = s.rate ∧
    (s.expireRunTime f).ports = s.ports ∧ (s.expireRunTime f).holder = s.holder ∧
    (s.expireRunTime f).budget = s.budget ∧ (s.expireRunTime f).hold = s.hold ∧
    (s.expireRunTime f).holdFlags = s.holdFlags ∧ (s.expireRunTime f).header = s.header ∧
    (s.expireRunTime f).outputs = s.outputs ∧ (s.expireRunTime f).pumpPair = s.pumpPair ∧
    (s.expireRunTime f).blowerPair = s.blowerPair ∧ (s.expireRunTime f).inputs = s.inputs ∧
    (s.expireRunTime f).volume = s.volume ∧ (s.expireRunTime f).accrual = s.accrual ∧
    (s.expireRunTime f).normal = s.normal ∧ (s.expireRunTime f).storm = s.storm ∧
    (s.expireRunTime f).active = s.active ∧ (s.expireRunTime f).plant = s.plant ∧ (s.expireRunTime f).lock = s.lock ∧
    (s.expireRunTime f).switch = s.switch ∧ (s.expireRunTime f).image = s.image ∧
    (s.expireRunTime f).storing = s.storing ∧ (s.expireRunTime f).history = s.history ∧
    (s.expireRunTime f).nextSeq = s.nextSeq := by
  unfold State.expireRunTime
  split <;> simp

@[simp] theorem State.postOwner_frame (s : State) (f : FilterNo) (n : Notice) :
    (s.postOwner f n).pending = s.pending ∧ (s.postOwner f n).draws = s.draws ∧ (s.postOwner f n).phase = s.phase ∧
    (s.postOwner f n).clock = s.clock ∧ (s.postOwner f n).hundredth = s.hundredth ∧ (s.postOwner f n).rate = s.rate ∧
    (s.postOwner f n).filters = s.filters ∧ (s.postOwner f n).queue = s.queue ∧ (s.postOwner f n).holder = s.holder ∧
    (s.postOwner f n).budget = s.budget ∧ (s.postOwner f n).hold = s.hold ∧
    (s.postOwner f n).holdFlags = s.holdFlags ∧ (s.postOwner f n).header = s.header ∧
    (s.postOwner f n).outputs = s.outputs ∧ (s.postOwner f n).pumpPair = s.pumpPair ∧
    (s.postOwner f n).blowerPair = s.blowerPair ∧ (s.postOwner f n).inputs = s.inputs ∧
    (s.postOwner f n).volume = s.volume ∧ (s.postOwner f n).accrual = s.accrual ∧
    (s.postOwner f n).normal = s.normal ∧ (s.postOwner f n).storm = s.storm ∧ (s.postOwner f n).active = s.active ∧
    (s.postOwner f n).plant = s.plant ∧ (s.postOwner f n).lock = s.lock ∧ (s.postOwner f n).switch = s.switch ∧
    (s.postOwner f n).image = s.image ∧ (s.postOwner f n).storing = s.storing ∧
    (s.postOwner f n).history = s.history ∧ (s.postOwner f n).nextSeq = s.nextSeq := by
  unfold State.postOwner
  split <;> simp

@[simp] theorem State.expireRipening_frame (s : State) (f : FilterNo) :
    (s.expireRipening f).pending = s.pending ∧ (s.expireRipening f).draws = s.draws ∧
    (s.expireRipening f).phase = s.phase ∧ (s.expireRipening f).clock = s.clock ∧
    (s.expireRipening f).hundredth = s.hundredth ∧ (s.expireRipening f).rate = s.rate ∧
    (s.expireRipening f).queue = s.queue ∧ (s.expireRipening f).holder = s.holder ∧
    (s.expireRipening f).budget = s.budget ∧ (s.expireRipening f).hold = s.hold ∧
    (s.expireRipening f).holdFlags = s.holdFlags ∧ (s.expireRipening f).header = s.header ∧
    (s.expireRipening f).outputs = s.outputs ∧ (s.expireRipening f).pumpPair = s.pumpPair ∧
    (s.expireRipening f).blowerPair = s.blowerPair ∧ (s.expireRipening f).inputs = s.inputs ∧
    (s.expireRipening f).volume = s.volume ∧ (s.expireRipening f).accrual = s.accrual ∧
    (s.expireRipening f).normal = s.normal ∧ (s.expireRipening f).storm = s.storm ∧
    (s.expireRipening f).active = s.active ∧ (s.expireRipening f).plant = s.plant ∧
    (s.expireRipening f).lock = s.lock ∧ (s.expireRipening f).switch = s.switch ∧
    (s.expireRipening f).image = s.image ∧ (s.expireRipening f).storing = s.storing ∧
    (s.expireRipening f).history = s.history ∧ (s.expireRipening f).nextSeq = s.nextSeq := by
  unfold State.expireRipening
  split <;> simp

@[simp] theorem State.returnToDue_frame (s : State) (f : FilterNo) (time : Option Nat) :
    (s.returnToDue f time).pending = s.pending ∧ (s.returnToDue f time).draws = s.draws ∧
    (s.returnToDue f time).phase = s.phase ∧ (s.returnToDue f time).clock = s.clock ∧
    (s.returnToDue f time).hundredth = s.hundredth ∧ (s.returnToDue f time).rate = s.rate ∧
    (s.returnToDue f time).ports = s.ports ∧ (s.returnToDue f time).holder = s.holder ∧
    (s.returnToDue f time).budget = s.budget ∧ (s.returnToDue f time).hold = s.hold ∧
    (s.returnToDue f time).holdFlags = s.holdFlags ∧ (s.returnToDue f time).header = s.header ∧
    (s.returnToDue f time).outputs = s.outputs ∧ (s.returnToDue f time).pumpPair = s.pumpPair ∧
    (s.returnToDue f time).blowerPair = s.blowerPair ∧ (s.returnToDue f time).inputs = s.inputs ∧
    (s.returnToDue f time).volume = s.volume ∧ (s.returnToDue f time).accrual = s.accrual ∧
    (s.returnToDue f time).normal = s.normal ∧ (s.returnToDue f time).storm = s.storm ∧
    (s.returnToDue f time).active = s.active ∧ (s.returnToDue f time).plant = s.plant ∧
    (s.returnToDue f time).lock = s.lock ∧ (s.returnToDue f time).switch = s.switch ∧
    (s.returnToDue f time).image = s.image ∧ (s.returnToDue f time).storing = s.storing ∧
    (s.returnToDue f time).history = s.history ∧ (s.returnToDue f time).nextSeq = s.nextSeq := by
  unfold State.returnToDue
  split <;> simp

@[simp] theorem State.cutVolume_frame (s : State) :
    (s.cutVolume).pending = s.pending ∧ (s.cutVolume).draws = s.draws ∧ (s.cutVolume).phase = s.phase ∧
    (s.cutVolume).clock = s.clock ∧ (s.cutVolume).hundredth = s.hundredth ∧ (s.cutVolume).rate = s.rate ∧
    (s.cutVolume).ports = s.ports ∧ (s.cutVolume).filters = s.filters ∧ (s.cutVolume).queue = s.queue ∧
    (s.cutVolume).holder = s.holder ∧ (s.cutVolume).budget = s.budget ∧ (s.cutVolume).hold = s.hold ∧
    (s.cutVolume).holdFlags = s.holdFlags ∧ (s.cutVolume).header = s.header ∧ (s.cutVolume).outputs = s.outputs ∧
    (s.cutVolume).pumpPair = s.pumpPair ∧ (s.cutVolume).blowerPair = s.blowerPair ∧ (s.cutVolume).inputs = s.inputs ∧
    (s.cutVolume).accrual = s.accrual ∧ (s.cutVolume).normal = s.normal ∧ (s.cutVolume).storm = s.storm ∧
    (s.cutVolume).active = s.active ∧ (s.cutVolume).plant = s.plant ∧ (s.cutVolume).lock = s.lock ∧
    (s.cutVolume).switch = s.switch ∧ (s.cutVolume).image = s.image ∧ (s.cutVolume).storing = s.storing ∧
    (s.cutVolume).history = s.history ∧ (s.cutVolume).nextSeq = s.nextSeq := by
  simp [State.cutVolume]

@[simp] theorem State.chargeAccrual_frame (s : State) :
    (s.chargeAccrual).pending = s.pending ∧ (s.chargeAccrual).draws = s.draws ∧ (s.chargeAccrual).phase = s.phase ∧
    (s.chargeAccrual).clock = s.clock ∧ (s.chargeAccrual).hundredth = s.hundredth ∧ (s.chargeAccrual).rate = s.rate ∧
    (s.chargeAccrual).ports = s.ports ∧ (s.chargeAccrual).filters = s.filters ∧ (s.chargeAccrual).queue = s.queue ∧
    (s.chargeAccrual).holder = s.holder ∧ (s.chargeAccrual).budget = s.budget ∧ (s.chargeAccrual).hold = s.hold ∧
    (s.chargeAccrual).holdFlags = s.holdFlags ∧ (s.chargeAccrual).outputs = s.outputs ∧
    (s.chargeAccrual).pumpPair = s.pumpPair ∧ (s.chargeAccrual).blowerPair = s.blowerPair ∧
    (s.chargeAccrual).inputs = s.inputs ∧ (s.chargeAccrual).volume = s.volume ∧ (s.chargeAccrual).normal = s.normal ∧
    (s.chargeAccrual).storm = s.storm ∧ (s.chargeAccrual).active = s.active ∧ (s.chargeAccrual).plant = s.plant ∧
    (s.chargeAccrual).lock = s.lock ∧ (s.chargeAccrual).switch = s.switch ∧ (s.chargeAccrual).image = s.image ∧
    (s.chargeAccrual).storing = s.storing ∧ (s.chargeAccrual).history = s.history ∧
    (s.chargeAccrual).nextSeq = s.nextSeq := by
  unfold State.chargeAccrual
  (repeat' split) <;> simp

@[simp] theorem State.takeAccrual_frame (s : State) :
    (s.takeAccrual).pending = s.pending ∧ (s.takeAccrual).draws = s.draws ∧ (s.takeAccrual).phase = s.phase ∧
    (s.takeAccrual).clock = s.clock ∧ (s.takeAccrual).hundredth = s.hundredth ∧ (s.takeAccrual).rate = s.rate ∧
    (s.takeAccrual).ports = s.ports ∧ (s.takeAccrual).filters = s.filters ∧ (s.takeAccrual).queue = s.queue ∧
    (s.takeAccrual).holder = s.holder ∧ (s.takeAccrual).budget = s.budget ∧ (s.takeAccrual).hold = s.hold ∧
    (s.takeAccrual).holdFlags = s.holdFlags ∧ (s.takeAccrual).outputs = s.outputs ∧
    (s.takeAccrual).pumpPair = s.pumpPair ∧ (s.takeAccrual).blowerPair = s.blowerPair ∧
    (s.takeAccrual).inputs = s.inputs ∧ (s.takeAccrual).normal = s.normal ∧ (s.takeAccrual).storm = s.storm ∧
    (s.takeAccrual).active = s.active ∧ (s.takeAccrual).plant = s.plant ∧ (s.takeAccrual).lock = s.lock ∧
    (s.takeAccrual).switch = s.switch ∧ (s.takeAccrual).image = s.image ∧ (s.takeAccrual).storing = s.storing ∧
    (s.takeAccrual).history = s.history ∧ (s.takeAccrual).nextSeq = s.nextSeq := by
  unfold State.takeAccrual
  (repeat' split) <;> simp

@[simp] theorem State.enterSettling_frame (s : State) :
    (s.enterSettling).pending = s.pending ∧ (s.enterSettling).draws = s.draws ∧ (s.enterSettling).phase = s.phase ∧
    (s.enterSettling).clock = s.clock ∧ (s.enterSettling).hundredth = s.hundredth ∧ (s.enterSettling).rate = s.rate ∧
    (s.enterSettling).ports = s.ports ∧ (s.enterSettling).filters = s.filters ∧ (s.enterSettling).queue = s.queue ∧
    (s.enterSettling).holder = s.holder ∧ (s.enterSettling).budget = s.budget ∧ (s.enterSettling).hold = s.hold ∧
    (s.enterSettling).holdFlags = s.holdFlags ∧ (s.enterSettling).outputs = s.outputs ∧
    (s.enterSettling).pumpPair = s.pumpPair ∧ (s.enterSettling).blowerPair = s.blowerPair ∧
    (s.enterSettling).inputs = s.inputs ∧ (s.enterSettling).volume = s.volume ∧
    (s.enterSettling).accrual = s.accrual ∧ (s.enterSettling).normal = s.normal ∧ (s.enterSettling).storm = s.storm ∧
    (s.enterSettling).active = s.active ∧ (s.enterSettling).plant = s.plant ∧ (s.enterSettling).lock = s.lock ∧
    (s.enterSettling).switch = s.switch ∧ (s.enterSettling).image = s.image ∧ (s.enterSettling).storing = s.storing ∧
    (s.enterSettling).history = s.history ∧ (s.enterSettling).nextSeq = s.nextSeq := by
  simp [State.enterSettling]

@[simp] theorem State.enterRunon_frame (s : State) :
    (s.enterRunon).pending = s.pending ∧ (s.enterRunon).draws = s.draws ∧ (s.enterRunon).phase = s.phase ∧
    (s.enterRunon).clock = s.clock ∧ (s.enterRunon).hundredth = s.hundredth ∧ (s.enterRunon).rate = s.rate ∧
    (s.enterRunon).filters = s.filters ∧ (s.enterRunon).queue = s.queue ∧ (s.enterRunon).holder = s.holder ∧
    (s.enterRunon).budget = s.budget ∧ (s.enterRunon).hold = s.hold ∧ (s.enterRunon).holdFlags = s.holdFlags ∧
    (s.enterRunon).outputs = s.outputs ∧ (s.enterRunon).pumpPair = s.pumpPair ∧
    (s.enterRunon).blowerPair = s.blowerPair ∧ (s.enterRunon).inputs = s.inputs ∧ (s.enterRunon).volume = s.volume ∧
    (s.enterRunon).accrual = s.accrual ∧ (s.enterRunon).normal = s.normal ∧ (s.enterRunon).storm = s.storm ∧
    (s.enterRunon).active = s.active ∧ (s.enterRunon).plant = s.plant ∧ (s.enterRunon).lock = s.lock ∧
    (s.enterRunon).switch = s.switch ∧ (s.enterRunon).image = s.image ∧ (s.enterRunon).storing = s.storing ∧
    (s.enterRunon).history = s.history ∧ (s.enterRunon).nextSeq = s.nextSeq := by
  unfold State.enterRunon
  dsimp only
  (repeat' split) <;> simp

@[simp] theorem State.leaveAborting_frame (s : State) :
    (s.leaveAborting).pending = s.pending ∧ (s.leaveAborting).draws = s.draws ∧ (s.leaveAborting).phase = s.phase ∧
    (s.leaveAborting).clock = s.clock ∧ (s.leaveAborting).hundredth = s.hundredth ∧ (s.leaveAborting).rate = s.rate ∧
    (s.leaveAborting).filters = s.filters ∧ (s.leaveAborting).queue = s.queue ∧ (s.leaveAborting).holder = s.holder ∧
    (s.leaveAborting).budget = s.budget ∧ (s.leaveAborting).hold = s.hold ∧
    (s.leaveAborting).holdFlags = s.holdFlags ∧ (s.leaveAborting).outputs = s.outputs ∧
    (s.leaveAborting).pumpPair = s.pumpPair ∧ (s.leaveAborting).blowerPair = s.blowerPair ∧
    (s.leaveAborting).inputs = s.inputs ∧ (s.leaveAborting).volume = s.volume ∧
    (s.leaveAborting).accrual = s.accrual ∧ (s.leaveAborting).normal = s.normal ∧ (s.leaveAborting).storm = s.storm ∧
    (s.leaveAborting).active = s.active ∧ (s.leaveAborting).plant = s.plant ∧ (s.leaveAborting).lock = s.lock ∧
    (s.leaveAborting).switch = s.switch ∧ (s.leaveAborting).image = s.image ∧ (s.leaveAborting).storing = s.storing ∧
    (s.leaveAborting).history = s.history ∧ (s.leaveAborting).nextSeq = s.nextSeq := by
  unfold State.leaveAborting
  (repeat' split) <;> simp

@[simp] theorem State.expireGap_frame (s : State) :
    (s.expireGap).pending = s.pending ∧ (s.expireGap).draws = s.draws ∧ (s.expireGap).phase = s.phase ∧
    (s.expireGap).clock = s.clock ∧ (s.expireGap).hundredth = s.hundredth ∧ (s.expireGap).rate = s.rate ∧
    (s.expireGap).ports = s.ports ∧ (s.expireGap).filters = s.filters ∧ (s.expireGap).queue = s.queue ∧
    (s.expireGap).holder = s.holder ∧ (s.expireGap).budget = s.budget ∧ (s.expireGap).hold = s.hold ∧
    (s.expireGap).holdFlags = s.holdFlags ∧ (s.expireGap).outputs = s.outputs ∧ (s.expireGap).pumpPair = s.pumpPair ∧
    (s.expireGap).blowerPair = s.blowerPair ∧ (s.expireGap).inputs = s.inputs ∧ (s.expireGap).volume = s.volume ∧
    (s.expireGap).accrual = s.accrual ∧ (s.expireGap).normal = s.normal ∧ (s.expireGap).storm = s.storm ∧
    (s.expireGap).active = s.active ∧ (s.expireGap).plant = s.plant ∧ (s.expireGap).lock = s.lock ∧
    (s.expireGap).switch = s.switch ∧ (s.expireGap).image = s.image ∧ (s.expireGap).storing = s.storing ∧
    (s.expireGap).history = s.history ∧ (s.expireGap).nextSeq = s.nextSeq := by
  unfold State.expireGap
  (repeat' split) <;> simp

@[simp] theorem State.windowEnded_frame (s : State) :
    (s.windowEnded).pending = s.pending ∧ (s.windowEnded).draws = s.draws ∧ (s.windowEnded).phase = s.phase ∧
    (s.windowEnded).clock = s.clock ∧ (s.windowEnded).hundredth = s.hundredth ∧ (s.windowEnded).rate = s.rate ∧
    (s.windowEnded).filters = s.filters ∧ (s.windowEnded).queue = s.queue ∧ (s.windowEnded).holder = s.holder ∧
    (s.windowEnded).budget = s.budget ∧ (s.windowEnded).hold = s.hold ∧ (s.windowEnded).holdFlags = s.holdFlags ∧
    (s.windowEnded).outputs = s.outputs ∧ (s.windowEnded).pumpPair = s.pumpPair ∧
    (s.windowEnded).blowerPair = s.blowerPair ∧ (s.windowEnded).inputs = s.inputs ∧
    (s.windowEnded).volume = s.volume ∧ (s.windowEnded).accrual = s.accrual ∧ (s.windowEnded).normal = s.normal ∧
    (s.windowEnded).storm = s.storm ∧ (s.windowEnded).active = s.active ∧ (s.windowEnded).plant = s.plant ∧
    (s.windowEnded).lock = s.lock ∧ (s.windowEnded).switch = s.switch ∧ (s.windowEnded).image = s.image ∧
    (s.windowEnded).storing = s.storing ∧ (s.windowEnded).history = s.history ∧ (s.windowEnded).nextSeq = s.nextSeq := by
  unfold State.windowEnded
  (repeat' split) <;> simp

@[simp] theorem State.abortFilter_frame (s : State) (w : Wash) :
    (s.abortFilter w).pending = s.pending ∧ (s.abortFilter w).draws = s.draws ∧ (s.abortFilter w).phase = s.phase ∧
    (s.abortFilter w).clock = s.clock ∧ (s.abortFilter w).hundredth = s.hundredth ∧ (s.abortFilter w).rate = s.rate ∧
    (s.abortFilter w).ports = s.ports ∧ (s.abortFilter w).holder = s.holder ∧ (s.abortFilter w).budget = s.budget ∧
    (s.abortFilter w).hold = s.hold ∧ (s.abortFilter w).holdFlags = s.holdFlags ∧
    (s.abortFilter w).header = s.header ∧ (s.abortFilter w).outputs = s.outputs ∧
    (s.abortFilter w).pumpPair = s.pumpPair ∧ (s.abortFilter w).blowerPair = s.blowerPair ∧
    (s.abortFilter w).inputs = s.inputs ∧ (s.abortFilter w).volume = s.volume ∧
    (s.abortFilter w).accrual = s.accrual ∧ (s.abortFilter w).normal = s.normal ∧ (s.abortFilter w).storm = s.storm ∧
    (s.abortFilter w).active = s.active ∧ (s.abortFilter w).plant = s.plant ∧ (s.abortFilter w).lock = s.lock ∧
    (s.abortFilter w).switch = s.switch ∧ (s.abortFilter w).image = s.image ∧ (s.abortFilter w).storing = s.storing ∧
    (s.abortFilter w).history = s.history ∧ (s.abortFilter w).nextSeq = s.nextSeq := by
  unfold State.abortFilter
  split <;> simp

@[simp] theorem State.postFault_frame (s : State) (p : PortNo) (c : AbortCause) :
    (s.postFault p c).pending = s.pending ∧ (s.postFault p c).draws = s.draws ∧ (s.postFault p c).phase = s.phase ∧
    (s.postFault p c).clock = s.clock ∧ (s.postFault p c).hundredth = s.hundredth ∧ (s.postFault p c).rate = s.rate ∧
    (s.postFault p c).filters = s.filters ∧ (s.postFault p c).queue = s.queue ∧ (s.postFault p c).holder = s.holder ∧
    (s.postFault p c).budget = s.budget ∧ (s.postFault p c).hold = s.hold ∧
    (s.postFault p c).holdFlags = s.holdFlags ∧ (s.postFault p c).header = s.header ∧
    (s.postFault p c).outputs = s.outputs ∧ (s.postFault p c).pumpPair = s.pumpPair ∧
    (s.postFault p c).blowerPair = s.blowerPair ∧ (s.postFault p c).inputs = s.inputs ∧
    (s.postFault p c).volume = s.volume ∧ (s.postFault p c).accrual = s.accrual ∧
    (s.postFault p c).normal = s.normal ∧ (s.postFault p c).storm = s.storm ∧ (s.postFault p c).active = s.active ∧
    (s.postFault p c).plant = s.plant ∧ (s.postFault p c).lock = s.lock ∧ (s.postFault p c).switch = s.switch ∧
    (s.postFault p c).image = s.image ∧ (s.postFault p c).storing = s.storing ∧
    (s.postFault p c).history = s.history ∧ (s.postFault p c).nextSeq = s.nextSeq := by
  unfold State.postFault
  split <;> simp

@[simp] theorem State.abortWash_frame (s : State) (w : Wash) (r : Option Run) (c : AbortCause) :
    (s.abortWash w r c).pending = s.pending ∧ (s.abortWash w r c).draws = s.draws ∧
    (s.abortWash w r c).phase = s.phase ∧ (s.abortWash w r c).clock = s.clock ∧
    (s.abortWash w r c).hundredth = s.hundredth ∧ (s.abortWash w r c).rate = s.rate ∧
    (s.abortWash w r c).holder = s.holder ∧ (s.abortWash w r c).budget = s.budget ∧
    (s.abortWash w r c).hold = s.hold ∧ (s.abortWash w r c).holdFlags = s.holdFlags ∧
    (s.abortWash w r c).inputs = s.inputs ∧ (s.abortWash w r c).volume = s.volume ∧
    (s.abortWash w r c).accrual = s.accrual ∧ (s.abortWash w r c).normal = s.normal ∧
    (s.abortWash w r c).storm = s.storm ∧ (s.abortWash w r c).active = s.active ∧
    (s.abortWash w r c).plant = s.plant ∧ (s.abortWash w r c).lock = s.lock ∧ (s.abortWash w r c).switch = s.switch ∧
    (s.abortWash w r c).image = s.image ∧ (s.abortWash w r c).storing = s.storing := by
  simp [State.abortWash]

@[simp] theorem State.abort_frame (s : State) (c : AbortCause) :
    (s.abort c).pending = s.pending ∧ (s.abort c).draws = s.draws ∧ (s.abort c).phase = s.phase ∧
    (s.abort c).clock = s.clock ∧ (s.abort c).hundredth = s.hundredth ∧ (s.abort c).rate = s.rate ∧
    (s.abort c).holder = s.holder ∧ (s.abort c).budget = s.budget ∧ (s.abort c).hold = s.hold ∧
    (s.abort c).holdFlags = s.holdFlags ∧ (s.abort c).inputs = s.inputs ∧ (s.abort c).volume = s.volume ∧
    (s.abort c).normal = s.normal ∧ (s.abort c).storm = s.storm ∧ (s.abort c).active = s.active ∧
    (s.abort c).plant = s.plant ∧ (s.abort c).lock = s.lock ∧ (s.abort c).switch = s.switch ∧
    (s.abort c).image = s.image ∧ (s.abort c).storing = s.storing := by
  unfold State.abort
  split <;> simp

@[simp] theorem State.completeFilter_frame (s : State) (f : FilterNo) :
    (s.completeFilter f).pending = s.pending ∧ (s.completeFilter f).draws = s.draws ∧
    (s.completeFilter f).phase = s.phase ∧ (s.completeFilter f).clock = s.clock ∧
    (s.completeFilter f).hundredth = s.hundredth ∧ (s.completeFilter f).rate = s.rate ∧
    (s.completeFilter f).ports = s.ports ∧ (s.completeFilter f).queue = s.queue ∧
    (s.completeFilter f).holder = s.holder ∧ (s.completeFilter f).budget = s.budget ∧
    (s.completeFilter f).hold = s.hold ∧ (s.completeFilter f).holdFlags = s.holdFlags ∧
    (s.completeFilter f).header = s.header ∧ (s.completeFilter f).outputs = s.outputs ∧
    (s.completeFilter f).pumpPair = s.pumpPair ∧ (s.completeFilter f).blowerPair = s.blowerPair ∧
    (s.completeFilter f).inputs = s.inputs ∧ (s.completeFilter f).volume = s.volume ∧
    (s.completeFilter f).accrual = s.accrual ∧ (s.completeFilter f).normal = s.normal ∧
    (s.completeFilter f).storm = s.storm ∧ (s.completeFilter f).active = s.active ∧
    (s.completeFilter f).plant = s.plant ∧ (s.completeFilter f).lock = s.lock ∧
    (s.completeFilter f).switch = s.switch ∧ (s.completeFilter f).image = s.image ∧
    (s.completeFilter f).storing = s.storing ∧ (s.completeFilter f).history = s.history ∧
    (s.completeFilter f).nextSeq = s.nextSeq := by
  simp [State.completeFilter]

@[simp] theorem State.completeWash_frame (s : State) (w : Wash) (r : Run) :
    (s.completeWash w r).pending = s.pending ∧ (s.completeWash w r).draws = s.draws ∧
    (s.completeWash w r).phase = s.phase ∧ (s.completeWash w r).clock = s.clock ∧
    (s.completeWash w r).hundredth = s.hundredth ∧ (s.completeWash w r).rate = s.rate ∧
    (s.completeWash w r).queue = s.queue ∧ (s.completeWash w r).holder = s.holder ∧
    (s.completeWash w r).budget = s.budget ∧ (s.completeWash w r).hold = s.hold ∧
    (s.completeWash w r).holdFlags = s.holdFlags ∧ (s.completeWash w r).inputs = s.inputs ∧
    (s.completeWash w r).volume = s.volume ∧ (s.completeWash w r).accrual = s.accrual ∧
    (s.completeWash w r).normal = s.normal ∧ (s.completeWash w r).storm = s.storm ∧
    (s.completeWash w r).active = s.active ∧ (s.completeWash w r).plant = s.plant ∧
    (s.completeWash w r).lock = s.lock ∧ (s.completeWash w r).switch = s.switch ∧
    (s.completeWash w r).image = s.image ∧ (s.completeWash w r).storing = s.storing := by
  simp [State.completeWash]

@[simp] theorem State.complete_frame (s : State) :
    (s.complete).pending = s.pending ∧ (s.complete).draws = s.draws ∧ (s.complete).phase = s.phase ∧
    (s.complete).clock = s.clock ∧ (s.complete).hundredth = s.hundredth ∧ (s.complete).rate = s.rate ∧
    (s.complete).queue = s.queue ∧ (s.complete).holder = s.holder ∧ (s.complete).budget = s.budget ∧
    (s.complete).hold = s.hold ∧ (s.complete).holdFlags = s.holdFlags ∧ (s.complete).inputs = s.inputs ∧
    (s.complete).volume = s.volume ∧ (s.complete).normal = s.normal ∧ (s.complete).storm = s.storm ∧
    (s.complete).active = s.active ∧ (s.complete).plant = s.plant ∧ (s.complete).lock = s.lock ∧
    (s.complete).switch = s.switch ∧ (s.complete).image = s.image ∧ (s.complete).storing = s.storing := by
  unfold State.complete
  split <;> simp

@[simp] theorem State.enterStepping_frame (s : State) (w : Wash) (r : Run) (st : Step) :
    (s.enterStepping w r st).pending = s.pending ∧ (s.enterStepping w r st).draws = s.draws ∧
    (s.enterStepping w r st).phase = s.phase ∧ (s.enterStepping w r st).clock = s.clock ∧
    (s.enterStepping w r st).hundredth = s.hundredth ∧ (s.enterStepping w r st).rate = s.rate ∧
    (s.enterStepping w r st).ports = s.ports ∧ (s.enterStepping w r st).filters = s.filters ∧
    (s.enterStepping w r st).queue = s.queue ∧ (s.enterStepping w r st).holder = s.holder ∧
    (s.enterStepping w r st).budget = s.budget ∧ (s.enterStepping w r st).hold = s.hold ∧
    (s.enterStepping w r st).holdFlags = s.holdFlags ∧ (s.enterStepping w r st).inputs = s.inputs ∧
    (s.enterStepping w r st).volume = s.volume ∧ (s.enterStepping w r st).accrual = s.accrual ∧
    (s.enterStepping w r st).normal = s.normal ∧ (s.enterStepping w r st).storm = s.storm ∧
    (s.enterStepping w r st).active = s.active ∧ (s.enterStepping w r st).plant = s.plant ∧
    (s.enterStepping w r st).lock = s.lock ∧ (s.enterStepping w r st).switch = s.switch ∧
    (s.enterStepping w r st).image = s.image ∧ (s.enterStepping w r st).storing = s.storing ∧
    (s.enterStepping w r st).history = s.history ∧ (s.enterStepping w r st).nextSeq = s.nextSeq := by
  simp [State.enterStepping]

@[simp] theorem State.enterHolding_frame (s : State) (w : Wash) (r : Run) :
    (s.enterHolding w r).pending = s.pending ∧ (s.enterHolding w r).draws = s.draws ∧
    (s.enterHolding w r).phase = s.phase ∧ (s.enterHolding w r).clock = s.clock ∧
    (s.enterHolding w r).hundredth = s.hundredth ∧ (s.enterHolding w r).rate = s.rate ∧
    (s.enterHolding w r).ports = s.ports ∧ (s.enterHolding w r).filters = s.filters ∧
    (s.enterHolding w r).queue = s.queue ∧ (s.enterHolding w r).holder = s.holder ∧
    (s.enterHolding w r).budget = s.budget ∧ (s.enterHolding w r).hold = s.hold ∧
    (s.enterHolding w r).holdFlags = s.holdFlags ∧ (s.enterHolding w r).inputs = s.inputs ∧
    (s.enterHolding w r).volume = s.volume ∧ (s.enterHolding w r).accrual = s.accrual ∧
    (s.enterHolding w r).normal = s.normal ∧ (s.enterHolding w r).storm = s.storm ∧
    (s.enterHolding w r).active = s.active ∧ (s.enterHolding w r).plant = s.plant ∧
    (s.enterHolding w r).lock = s.lock ∧ (s.enterHolding w r).switch = s.switch ∧
    (s.enterHolding w r).image = s.image ∧ (s.enterHolding w r).storing = s.storing ∧
    (s.enterHolding w r).history = s.history ∧ (s.enterHolding w r).nextSeq = s.nextSeq := by
  simp [State.enterHolding]

@[simp] theorem State.beginStep_frame (s : State) (w : Wash) (r : Run) (st : Step) :
    (s.beginStep w r st).pending = s.pending ∧ (s.beginStep w r st).draws = s.draws ∧
    (s.beginStep w r st).phase = s.phase ∧ (s.beginStep w r st).clock = s.clock ∧
    (s.beginStep w r st).hundredth = s.hundredth ∧ (s.beginStep w r st).rate = s.rate ∧
    (s.beginStep w r st).holder = s.holder ∧ (s.beginStep w r st).budget = s.budget ∧
    (s.beginStep w r st).hold = s.hold ∧ (s.beginStep w r st).holdFlags = s.holdFlags ∧
    (s.beginStep w r st).inputs = s.inputs ∧ (s.beginStep w r st).volume = s.volume ∧
    (s.beginStep w r st).normal = s.normal ∧ (s.beginStep w r st).storm = s.storm ∧
    (s.beginStep w r st).active = s.active ∧ (s.beginStep w r st).plant = s.plant ∧
    (s.beginStep w r st).lock = s.lock ∧ (s.beginStep w r st).switch = s.switch ∧
    (s.beginStep w r st).image = s.image ∧ (s.beginStep w r st).storing = s.storing := by
  unfold State.beginStep
  (repeat' split) <;> simp

@[simp] theorem State.enterGate_frame (s : State) (w : Wash) (r : Run) :
    (s.enterGate w r).pending = s.pending ∧ (s.enterGate w r).draws = s.draws ∧ (s.enterGate w r).phase = s.phase ∧
    (s.enterGate w r).clock = s.clock ∧ (s.enterGate w r).hundredth = s.hundredth ∧ (s.enterGate w r).rate = s.rate ∧
    (s.enterGate w r).filters = s.filters ∧ (s.enterGate w r).queue = s.queue ∧ (s.enterGate w r).holder = s.holder ∧
    (s.enterGate w r).budget = s.budget ∧ (s.enterGate w r).hold = s.hold ∧
    (s.enterGate w r).holdFlags = s.holdFlags ∧ (s.enterGate w r).inputs = s.inputs ∧
    (s.enterGate w r).volume = s.volume ∧ (s.enterGate w r).accrual = s.accrual ∧
    (s.enterGate w r).normal = s.normal ∧ (s.enterGate w r).storm = s.storm ∧ (s.enterGate w r).active = s.active ∧
    (s.enterGate w r).plant = s.plant ∧ (s.enterGate w r).lock = s.lock ∧ (s.enterGate w r).switch = s.switch ∧
    (s.enterGate w r).image = s.image ∧ (s.enterGate w r).storing = s.storing ∧
    (s.enterGate w r).history = s.history ∧ (s.enterGate w r).nextSeq = s.nextSeq := by
  simp [State.enterGate]

@[simp] theorem State.stepDue_frame (s : State) (w : Wash) (t n : Nat) (st : Step) :
    (s.stepDue w t n st).pending = s.pending ∧ (s.stepDue w t n st).draws = s.draws ∧
    (s.stepDue w t n st).phase = s.phase ∧ (s.stepDue w t n st).clock = s.clock ∧
    (s.stepDue w t n st).hundredth = s.hundredth ∧ (s.stepDue w t n st).rate = s.rate ∧
    (s.stepDue w t n st).holder = s.holder ∧ (s.stepDue w t n st).budget = s.budget ∧
    (s.stepDue w t n st).hold = s.hold ∧ (s.stepDue w t n st).holdFlags = s.holdFlags ∧
    (s.stepDue w t n st).inputs = s.inputs ∧ (s.stepDue w t n st).volume = s.volume ∧
    (s.stepDue w t n st).normal = s.normal ∧ (s.stepDue w t n st).storm = s.storm ∧
    (s.stepDue w t n st).active = s.active ∧ (s.stepDue w t n st).plant = s.plant ∧
    (s.stepDue w t n st).lock = s.lock ∧ (s.stepDue w t n st).switch = s.switch ∧
    (s.stepDue w t n st).image = s.image ∧ (s.stepDue w t n st).storing = s.storing := by
  unfold State.stepDue
  split <;> simp

@[simp] theorem State.tripAsserted_frame (s : State) (c : AbortCause) :
    (s.tripAsserted c).pending = s.pending ∧ (s.tripAsserted c).draws = s.draws ∧
    (s.tripAsserted c).phase = s.phase ∧ (s.tripAsserted c).clock = s.clock ∧
    (s.tripAsserted c).hundredth = s.hundredth ∧ (s.tripAsserted c).rate = s.rate ∧
    (s.tripAsserted c).holder = s.holder ∧ (s.tripAsserted c).budget = s.budget ∧ (s.tripAsserted c).hold = s.hold ∧
    (s.tripAsserted c).holdFlags = s.holdFlags ∧ (s.tripAsserted c).inputs = s.inputs ∧
    (s.tripAsserted c).volume = s.volume ∧ (s.tripAsserted c).normal = s.normal ∧
    (s.tripAsserted c).storm = s.storm ∧ (s.tripAsserted c).active = s.active ∧ (s.tripAsserted c).plant = s.plant ∧
    (s.tripAsserted c).lock = s.lock ∧ (s.tripAsserted c).switch = s.switch ∧ (s.tripAsserted c).image = s.image ∧
    (s.tripAsserted c).storing = s.storing := by
  unfold State.tripAsserted
  (repeat' split) <;> simp

@[simp] theorem State.tripReleased_frame (s : State) :
    (s.tripReleased).pending = s.pending ∧ (s.tripReleased).draws = s.draws ∧ (s.tripReleased).phase = s.phase ∧
    (s.tripReleased).clock = s.clock ∧ (s.tripReleased).hundredth = s.hundredth ∧ (s.tripReleased).rate = s.rate ∧
    (s.tripReleased).ports = s.ports ∧ (s.tripReleased).filters = s.filters ∧ (s.tripReleased).queue = s.queue ∧
    (s.tripReleased).holder = s.holder ∧ (s.tripReleased).budget = s.budget ∧ (s.tripReleased).hold = s.hold ∧
    (s.tripReleased).holdFlags = s.holdFlags ∧ (s.tripReleased).inputs = s.inputs ∧
    (s.tripReleased).volume = s.volume ∧ (s.tripReleased).accrual = s.accrual ∧ (s.tripReleased).normal = s.normal ∧
    (s.tripReleased).storm = s.storm ∧ (s.tripReleased).active = s.active ∧ (s.tripReleased).plant = s.plant ∧
    (s.tripReleased).lock = s.lock ∧ (s.tripReleased).switch = s.switch ∧ (s.tripReleased).image = s.image ∧
    (s.tripReleased).storing = s.storing ∧ (s.tripReleased).history = s.history ∧ (s.tripReleased).nextSeq = s.nextSeq := by
  unfold State.tripReleased
  (repeat' split) <;> simp

@[simp] theorem State.feedbackFault_frame (s : State) :
    (s.feedbackFault).pending = s.pending ∧ (s.feedbackFault).draws = s.draws ∧ (s.feedbackFault).phase = s.phase ∧
    (s.feedbackFault).clock = s.clock ∧ (s.feedbackFault).hundredth = s.hundredth ∧ (s.feedbackFault).rate = s.rate ∧
    (s.feedbackFault).holder = s.holder ∧ (s.feedbackFault).budget = s.budget ∧ (s.feedbackFault).hold = s.hold ∧
    (s.feedbackFault).holdFlags = s.holdFlags ∧ (s.feedbackFault).inputs = s.inputs ∧
    (s.feedbackFault).volume = s.volume ∧ (s.feedbackFault).normal = s.normal ∧ (s.feedbackFault).storm = s.storm ∧
    (s.feedbackFault).active = s.active ∧ (s.feedbackFault).plant = s.plant ∧ (s.feedbackFault).lock = s.lock ∧
    (s.feedbackFault).switch = s.switch ∧ (s.feedbackFault).image = s.image ∧ (s.feedbackFault).storing = s.storing := by
  unfold State.feedbackFault
  split <;> simp

@[simp] theorem State.feedbackAsserted_frame (s : State) (pair : Pair) :
    (s.feedbackAsserted pair).pending = s.pending ∧ (s.feedbackAsserted pair).draws = s.draws ∧
    (s.feedbackAsserted pair).phase = s.phase ∧ (s.feedbackAsserted pair).clock = s.clock ∧
    (s.feedbackAsserted pair).hundredth = s.hundredth ∧ (s.feedbackAsserted pair).rate = s.rate ∧
    (s.feedbackAsserted pair).ports = s.ports ∧ (s.feedbackAsserted pair).filters = s.filters ∧
    (s.feedbackAsserted pair).queue = s.queue ∧ (s.feedbackAsserted pair).holder = s.holder ∧
    (s.feedbackAsserted pair).budget = s.budget ∧ (s.feedbackAsserted pair).hold = s.hold ∧
    (s.feedbackAsserted pair).holdFlags = s.holdFlags ∧ (s.feedbackAsserted pair).outputs = s.outputs ∧
    (s.feedbackAsserted pair).inputs = s.inputs ∧ (s.feedbackAsserted pair).volume = s.volume ∧
    (s.feedbackAsserted pair).accrual = s.accrual ∧ (s.feedbackAsserted pair).normal = s.normal ∧
    (s.feedbackAsserted pair).storm = s.storm ∧ (s.feedbackAsserted pair).active = s.active ∧
    (s.feedbackAsserted pair).plant = s.plant ∧ (s.feedbackAsserted pair).lock = s.lock ∧
    (s.feedbackAsserted pair).switch = s.switch ∧ (s.feedbackAsserted pair).image = s.image ∧
    (s.feedbackAsserted pair).storing = s.storing ∧ (s.feedbackAsserted pair).history = s.history ∧
    (s.feedbackAsserted pair).nextSeq = s.nextSeq := by
  unfold State.feedbackAsserted
  split <;> simp

@[simp] theorem State.feedbackDeasserted_frame (s : State) (pair : Pair) :
    (s.feedbackDeasserted pair).pending = s.pending ∧ (s.feedbackDeasserted pair).draws = s.draws ∧
    (s.feedbackDeasserted pair).phase = s.phase ∧ (s.feedbackDeasserted pair).clock = s.clock ∧
    (s.feedbackDeasserted pair).hundredth = s.hundredth ∧ (s.feedbackDeasserted pair).rate = s.rate ∧
    (s.feedbackDeasserted pair).holder = s.holder ∧ (s.feedbackDeasserted pair).budget = s.budget ∧
    (s.feedbackDeasserted pair).hold = s.hold ∧ (s.feedbackDeasserted pair).holdFlags = s.holdFlags ∧
    (s.feedbackDeasserted pair).inputs = s.inputs ∧ (s.feedbackDeasserted pair).volume = s.volume ∧
    (s.feedbackDeasserted pair).normal = s.normal ∧ (s.feedbackDeasserted pair).storm = s.storm ∧
    (s.feedbackDeasserted pair).active = s.active ∧ (s.feedbackDeasserted pair).plant = s.plant ∧
    (s.feedbackDeasserted pair).lock = s.lock ∧ (s.feedbackDeasserted pair).switch = s.switch ∧
    (s.feedbackDeasserted pair).image = s.image ∧ (s.feedbackDeasserted pair).storing = s.storing := by
  unfold State.feedbackDeasserted
  split <;> simp

@[simp] theorem State.overrunReported_frame (s : State) :
    (s.overrunReported).pending = s.pending ∧ (s.overrunReported).draws = s.draws ∧
    (s.overrunReported).phase = s.phase ∧ (s.overrunReported).clock = s.clock ∧
    (s.overrunReported).hundredth = s.hundredth ∧ (s.overrunReported).rate = s.rate ∧
    (s.overrunReported).holder = s.holder ∧ (s.overrunReported).budget = s.budget ∧
    (s.overrunReported).hold = s.hold ∧ (s.overrunReported).holdFlags = s.holdFlags ∧
    (s.overrunReported).inputs = s.inputs ∧ (s.overrunReported).volume = s.volume ∧
    (s.overrunReported).normal = s.normal ∧ (s.overrunReported).storm = s.storm ∧
    (s.overrunReported).active = s.active ∧ (s.overrunReported).plant = s.plant ∧ (s.overrunReported).lock = s.lock ∧
    (s.overrunReported).switch = s.switch ∧ (s.overrunReported).image = s.image ∧
    (s.overrunReported).storing = s.storing := by
  unfold State.overrunReported
  split <;> simp

@[simp] theorem State.endCall_frame (s : State) (w : Wash) (time : Option Nat) :
    (s.endCall w time).pending = s.pending ∧ (s.endCall w time).draws = s.draws ∧
    (s.endCall w time).phase = s.phase ∧ (s.endCall w time).clock = s.clock ∧
    (s.endCall w time).hundredth = s.hundredth ∧ (s.endCall w time).rate = s.rate ∧
    (s.endCall w time).ports = s.ports ∧ (s.endCall w time).holder = s.holder ∧
    (s.endCall w time).budget = s.budget ∧ (s.endCall w time).hold = s.hold ∧
    (s.endCall w time).holdFlags = s.holdFlags ∧ (s.endCall w time).outputs = s.outputs ∧
    (s.endCall w time).pumpPair = s.pumpPair ∧ (s.endCall w time).blowerPair = s.blowerPair ∧
    (s.endCall w time).inputs = s.inputs ∧ (s.endCall w time).volume = s.volume ∧
    (s.endCall w time).accrual = s.accrual ∧ (s.endCall w time).normal = s.normal ∧
    (s.endCall w time).storm = s.storm ∧ (s.endCall w time).active = s.active ∧ (s.endCall w time).plant = s.plant ∧
    (s.endCall w time).lock = s.lock ∧ (s.endCall w time).switch = s.switch ∧ (s.endCall w time).image = s.image ∧
    (s.endCall w time).storing = s.storing ∧ (s.endCall w time).history = s.history ∧
    (s.endCall w time).nextSeq = s.nextSeq := by
  simp [State.endCall]

@[simp] theorem State.setPortState_frame (s : State) (p : PortNo) (st : PortState) :
    (s.setPortState p st).pending = s.pending ∧ (s.setPortState p st).draws = s.draws ∧
    (s.setPortState p st).phase = s.phase ∧ (s.setPortState p st).clock = s.clock ∧
    (s.setPortState p st).hundredth = s.hundredth ∧ (s.setPortState p st).rate = s.rate ∧
    (s.setPortState p st).filters = s.filters ∧ (s.setPortState p st).queue = s.queue ∧
    (s.setPortState p st).holder = s.holder ∧ (s.setPortState p st).budget = s.budget ∧
    (s.setPortState p st).hold = s.hold ∧ (s.setPortState p st).holdFlags = s.holdFlags ∧
    (s.setPortState p st).header = s.header ∧ (s.setPortState p st).outputs = s.outputs ∧
    (s.setPortState p st).pumpPair = s.pumpPair ∧ (s.setPortState p st).blowerPair = s.blowerPair ∧
    (s.setPortState p st).inputs = s.inputs ∧ (s.setPortState p st).volume = s.volume ∧
    (s.setPortState p st).accrual = s.accrual ∧ (s.setPortState p st).normal = s.normal ∧
    (s.setPortState p st).storm = s.storm ∧ (s.setPortState p st).active = s.active ∧
    (s.setPortState p st).plant = s.plant ∧ (s.setPortState p st).lock = s.lock ∧
    (s.setPortState p st).switch = s.switch ∧ (s.setPortState p st).image = s.image ∧
    (s.setPortState p st).storing = s.storing ∧ (s.setPortState p st).history = s.history ∧
    (s.setPortState p st).nextSeq = s.nextSeq := by
  simp [State.setPortState]

@[simp] theorem State.dropLock_frame (s : State) (p : PortNo) :
    (s.dropLock p).pending = s.pending ∧ (s.dropLock p).draws = s.draws ∧ (s.dropLock p).phase = s.phase ∧
    (s.dropLock p).clock = s.clock ∧ (s.dropLock p).hundredth = s.hundredth ∧ (s.dropLock p).rate = s.rate ∧
    (s.dropLock p).ports = s.ports ∧ (s.dropLock p).filters = s.filters ∧ (s.dropLock p).queue = s.queue ∧
    (s.dropLock p).holder = s.holder ∧ (s.dropLock p).budget = s.budget ∧ (s.dropLock p).hold = s.hold ∧
    (s.dropLock p).holdFlags = s.holdFlags ∧ (s.dropLock p).header = s.header ∧ (s.dropLock p).outputs = s.outputs ∧
    (s.dropLock p).pumpPair = s.pumpPair ∧ (s.dropLock p).blowerPair = s.blowerPair ∧
    (s.dropLock p).inputs = s.inputs ∧ (s.dropLock p).volume = s.volume ∧ (s.dropLock p).accrual = s.accrual ∧
    (s.dropLock p).normal = s.normal ∧ (s.dropLock p).storm = s.storm ∧ (s.dropLock p).active = s.active ∧
    (s.dropLock p).plant = s.plant ∧ (s.dropLock p).switch = s.switch ∧ (s.dropLock p).image = s.image ∧
    (s.dropLock p).storing = s.storing ∧ (s.dropLock p).history = s.history ∧ (s.dropLock p).nextSeq = s.nextSeq := by
  unfold State.dropLock
  split <;> simp

@[simp] theorem State.dropHold_frame (s : State) (p : PortNo) :
    (s.dropHold p).pending = s.pending ∧ (s.dropHold p).draws = s.draws ∧ (s.dropHold p).phase = s.phase ∧
    (s.dropHold p).clock = s.clock ∧ (s.dropHold p).hundredth = s.hundredth ∧ (s.dropHold p).rate = s.rate ∧
    (s.dropHold p).ports = s.ports ∧ (s.dropHold p).filters = s.filters ∧ (s.dropHold p).queue = s.queue ∧
    (s.dropHold p).holder = s.holder ∧ (s.dropHold p).budget = s.budget ∧ (s.dropHold p).header = s.header ∧
    (s.dropHold p).outputs = s.outputs ∧ (s.dropHold p).pumpPair = s.pumpPair ∧
    (s.dropHold p).blowerPair = s.blowerPair ∧ (s.dropHold p).inputs = s.inputs ∧ (s.dropHold p).volume = s.volume ∧
    (s.dropHold p).accrual = s.accrual ∧ (s.dropHold p).normal = s.normal ∧ (s.dropHold p).storm = s.storm ∧
    (s.dropHold p).active = s.active ∧ (s.dropHold p).plant = s.plant ∧ (s.dropHold p).lock = s.lock ∧
    (s.dropHold p).switch = s.switch ∧ (s.dropHold p).image = s.image ∧ (s.dropHold p).storing = s.storing ∧
    (s.dropHold p).history = s.history ∧ (s.dropHold p).nextSeq = s.nextSeq := by
  simp [State.dropHold]

@[simp] theorem State.dropWash_frame (s : State) (p : PortNo) :
    (s.dropWash p).pending = s.pending ∧ (s.dropWash p).draws = s.draws ∧ (s.dropWash p).phase = s.phase ∧
    (s.dropWash p).clock = s.clock ∧ (s.dropWash p).hundredth = s.hundredth ∧ (s.dropWash p).rate = s.rate ∧
    (s.dropWash p).holder = s.holder ∧ (s.dropWash p).budget = s.budget ∧ (s.dropWash p).hold = s.hold ∧
    (s.dropWash p).holdFlags = s.holdFlags ∧ (s.dropWash p).inputs = s.inputs ∧ (s.dropWash p).volume = s.volume ∧
    (s.dropWash p).normal = s.normal ∧ (s.dropWash p).storm = s.storm ∧ (s.dropWash p).active = s.active ∧
    (s.dropWash p).plant = s.plant ∧ (s.dropWash p).lock = s.lock ∧ (s.dropWash p).switch = s.switch ∧
    (s.dropWash p).image = s.image ∧ (s.dropWash p).storing = s.storing := by
  unfold State.dropWash
  (repeat' split) <;> simp

@[simp] theorem State.leavingEffects_frame (s : State) (p : PortNo) :
    (s.leavingEffects p).pending = s.pending ∧ (s.leavingEffects p).draws = s.draws ∧
    (s.leavingEffects p).phase = s.phase ∧ (s.leavingEffects p).clock = s.clock ∧
    (s.leavingEffects p).hundredth = s.hundredth ∧ (s.leavingEffects p).rate = s.rate ∧
    (s.leavingEffects p).holder = s.holder ∧ (s.leavingEffects p).budget = s.budget ∧
    (s.leavingEffects p).inputs = s.inputs ∧ (s.leavingEffects p).volume = s.volume ∧
    (s.leavingEffects p).normal = s.normal ∧ (s.leavingEffects p).storm = s.storm ∧
    (s.leavingEffects p).active = s.active ∧ (s.leavingEffects p).plant = s.plant ∧
    (s.leavingEffects p).switch = s.switch ∧ (s.leavingEffects p).image = s.image ∧
    (s.leavingEffects p).storing = s.storing := by
  simp [State.leavingEffects]

@[simp] theorem State.leavePort_frame (s : State) (p : PortNo) (st : PortState) :
    (s.leavePort p st).pending = s.pending ∧ (s.leavePort p st).draws = s.draws ∧
    (s.leavePort p st).phase = s.phase ∧ (s.leavePort p st).clock = s.clock ∧
    (s.leavePort p st).hundredth = s.hundredth ∧ (s.leavePort p st).rate = s.rate ∧
    (s.leavePort p st).holder = s.holder ∧ (s.leavePort p st).budget = s.budget ∧
    (s.leavePort p st).inputs = s.inputs ∧ (s.leavePort p st).volume = s.volume ∧
    (s.leavePort p st).normal = s.normal ∧ (s.leavePort p st).storm = s.storm ∧
    (s.leavePort p st).active = s.active ∧ (s.leavePort p st).plant = s.plant ∧
    (s.leavePort p st).switch = s.switch ∧ (s.leavePort p st).image = s.image ∧ (s.leavePort p st).storing = s.storing := by
  unfold State.leavePort
  split <;> simp

@[simp] theorem State.losePort_frame (s : State) (p : PortNo) (st : PortState) :
    (s.losePort p st).pending = s.pending ∧ (s.losePort p st).draws = s.draws ∧ (s.losePort p st).phase = s.phase ∧
    (s.losePort p st).clock = s.clock ∧ (s.losePort p st).hundredth = s.hundredth ∧ (s.losePort p st).rate = s.rate ∧
    (s.losePort p st).holder = s.holder ∧ (s.losePort p st).budget = s.budget ∧ (s.losePort p st).inputs = s.inputs ∧
    (s.losePort p st).volume = s.volume ∧ (s.losePort p st).normal = s.normal ∧ (s.losePort p st).storm = s.storm ∧
    (s.losePort p st).active = s.active ∧ (s.losePort p st).plant = s.plant ∧ (s.losePort p st).switch = s.switch ∧
    (s.losePort p st).image = s.image ∧ (s.losePort p st).storing = s.storing := by
  simp [State.losePort]

@[simp] theorem State.quietPort_frame (s : State) (p : PortNo) :
    (s.quietPort p).pending = s.pending ∧ (s.quietPort p).draws = s.draws ∧ (s.quietPort p).phase = s.phase ∧
    (s.quietPort p).clock = s.clock ∧ (s.quietPort p).hundredth = s.hundredth ∧ (s.quietPort p).rate = s.rate ∧
    (s.quietPort p).filters = s.filters ∧ (s.quietPort p).queue = s.queue ∧ (s.quietPort p).holder = s.holder ∧
    (s.quietPort p).budget = s.budget ∧ (s.quietPort p).hold = s.hold ∧ (s.quietPort p).holdFlags = s.holdFlags ∧
    (s.quietPort p).header = s.header ∧ (s.quietPort p).outputs = s.outputs ∧ (s.quietPort p).pumpPair = s.pumpPair ∧
    (s.quietPort p).blowerPair = s.blowerPair ∧ (s.quietPort p).inputs = s.inputs ∧
    (s.quietPort p).volume = s.volume ∧ (s.quietPort p).accrual = s.accrual ∧ (s.quietPort p).normal = s.normal ∧
    (s.quietPort p).storm = s.storm ∧ (s.quietPort p).active = s.active ∧ (s.quietPort p).plant = s.plant ∧
    (s.quietPort p).lock = s.lock ∧ (s.quietPort p).switch = s.switch ∧ (s.quietPort p).image = s.image ∧
    (s.quietPort p).storing = s.storing ∧ (s.quietPort p).history = s.history ∧ (s.quietPort p).nextSeq = s.nextSeq := by
  simp [State.quietPort]

@[simp] theorem State.setReceiver_frame (s : State) (p : PortNo) (r : Receiver) :
    (s.setReceiver p r).pending = s.pending ∧ (s.setReceiver p r).draws = s.draws ∧
    (s.setReceiver p r).phase = s.phase ∧ (s.setReceiver p r).clock = s.clock ∧
    (s.setReceiver p r).hundredth = s.hundredth ∧ (s.setReceiver p r).rate = s.rate ∧
    (s.setReceiver p r).filters = s.filters ∧ (s.setReceiver p r).queue = s.queue ∧
    (s.setReceiver p r).holder = s.holder ∧ (s.setReceiver p r).budget = s.budget ∧
    (s.setReceiver p r).hold = s.hold ∧ (s.setReceiver p r).holdFlags = s.holdFlags ∧
    (s.setReceiver p r).header = s.header ∧ (s.setReceiver p r).outputs = s.outputs ∧
    (s.setReceiver p r).pumpPair = s.pumpPair ∧ (s.setReceiver p r).blowerPair = s.blowerPair ∧
    (s.setReceiver p r).inputs = s.inputs ∧ (s.setReceiver p r).volume = s.volume ∧
    (s.setReceiver p r).accrual = s.accrual ∧ (s.setReceiver p r).normal = s.normal ∧
    (s.setReceiver p r).storm = s.storm ∧ (s.setReceiver p r).active = s.active ∧
    (s.setReceiver p r).plant = s.plant ∧ (s.setReceiver p r).lock = s.lock ∧ (s.setReceiver p r).switch = s.switch ∧
    (s.setReceiver p r).image = s.image ∧ (s.setReceiver p r).storing = s.storing ∧
    (s.setReceiver p r).history = s.history ∧ (s.setReceiver p r).nextSeq = s.nextSeq := by
  simp [State.setReceiver]

@[simp] theorem State.goodFrame_frame (s : State) (p : PortNo) :
    (s.goodFrame p).pending = s.pending ∧ (s.goodFrame p).draws = s.draws ∧ (s.goodFrame p).phase = s.phase ∧
    (s.goodFrame p).clock = s.clock ∧ (s.goodFrame p).hundredth = s.hundredth ∧ (s.goodFrame p).rate = s.rate ∧
    (s.goodFrame p).filters = s.filters ∧ (s.goodFrame p).queue = s.queue ∧ (s.goodFrame p).holder = s.holder ∧
    (s.goodFrame p).budget = s.budget ∧ (s.goodFrame p).hold = s.hold ∧ (s.goodFrame p).holdFlags = s.holdFlags ∧
    (s.goodFrame p).header = s.header ∧ (s.goodFrame p).outputs = s.outputs ∧ (s.goodFrame p).pumpPair = s.pumpPair ∧
    (s.goodFrame p).blowerPair = s.blowerPair ∧ (s.goodFrame p).inputs = s.inputs ∧
    (s.goodFrame p).volume = s.volume ∧ (s.goodFrame p).accrual = s.accrual ∧ (s.goodFrame p).normal = s.normal ∧
    (s.goodFrame p).storm = s.storm ∧ (s.goodFrame p).active = s.active ∧ (s.goodFrame p).plant = s.plant ∧
    (s.goodFrame p).lock = s.lock ∧ (s.goodFrame p).switch = s.switch ∧ (s.goodFrame p).image = s.image ∧
    (s.goodFrame p).storing = s.storing ∧ (s.goodFrame p).history = s.history ∧ (s.goodFrame p).nextSeq = s.nextSeq := by
  unfold State.goodFrame
  split <;> simp

@[simp] theorem State.discardFrame_frame (s : State) (p : PortNo) :
    (s.discardFrame p).pending = s.pending ∧ (s.discardFrame p).draws = s.draws ∧
    (s.discardFrame p).phase = s.phase ∧ (s.discardFrame p).clock = s.clock ∧
    (s.discardFrame p).hundredth = s.hundredth ∧ (s.discardFrame p).rate = s.rate ∧
    (s.discardFrame p).holder = s.holder ∧ (s.discardFrame p).budget = s.budget ∧
    (s.discardFrame p).inputs = s.inputs ∧ (s.discardFrame p).volume = s.volume ∧
    (s.discardFrame p).normal = s.normal ∧ (s.discardFrame p).storm = s.storm ∧
    (s.discardFrame p).active = s.active ∧ (s.discardFrame p).plant = s.plant ∧
    (s.discardFrame p).switch = s.switch ∧ (s.discardFrame p).image = s.image ∧ (s.discardFrame p).storing = s.storing := by
  unfold State.discardFrame
  dsimp only
  (repeat' split) <;> simp

@[simp] theorem State.reply_frame (s : State) (p : PortNo) (r : Reply) :
    (s.reply p r).pending = s.pending ∧ (s.reply p r).draws = s.draws ∧ (s.reply p r).phase = s.phase ∧
    (s.reply p r).clock = s.clock ∧ (s.reply p r).hundredth = s.hundredth ∧ (s.reply p r).rate = s.rate ∧
    (s.reply p r).filters = s.filters ∧ (s.reply p r).queue = s.queue ∧ (s.reply p r).holder = s.holder ∧
    (s.reply p r).budget = s.budget ∧ (s.reply p r).hold = s.hold ∧ (s.reply p r).holdFlags = s.holdFlags ∧
    (s.reply p r).header = s.header ∧ (s.reply p r).outputs = s.outputs ∧ (s.reply p r).pumpPair = s.pumpPair ∧
    (s.reply p r).blowerPair = s.blowerPair ∧ (s.reply p r).inputs = s.inputs ∧ (s.reply p r).volume = s.volume ∧
    (s.reply p r).accrual = s.accrual ∧ (s.reply p r).normal = s.normal ∧ (s.reply p r).storm = s.storm ∧
    (s.reply p r).active = s.active ∧ (s.reply p r).plant = s.plant ∧ (s.reply p r).lock = s.lock ∧
    (s.reply p r).switch = s.switch ∧ (s.reply p r).image = s.image ∧ (s.reply p r).storing = s.storing ∧
    (s.reply p r).history = s.history ∧ (s.reply p r).nextSeq = s.nextSeq := by
  simp [State.reply]

@[simp] theorem State.expireHold_frame (s : State) :
    (s.expireHold).pending = s.pending ∧ (s.expireHold).draws = s.draws ∧ (s.expireHold).phase = s.phase ∧
    (s.expireHold).clock = s.clock ∧ (s.expireHold).hundredth = s.hundredth ∧ (s.expireHold).rate = s.rate ∧
    (s.expireHold).filters = s.filters ∧ (s.expireHold).queue = s.queue ∧ (s.expireHold).holder = s.holder ∧
    (s.expireHold).budget = s.budget ∧ (s.expireHold).holdFlags = s.holdFlags ∧ (s.expireHold).header = s.header ∧
    (s.expireHold).outputs = s.outputs ∧ (s.expireHold).pumpPair = s.pumpPair ∧
    (s.expireHold).blowerPair = s.blowerPair ∧ (s.expireHold).inputs = s.inputs ∧ (s.expireHold).volume = s.volume ∧
    (s.expireHold).accrual = s.accrual ∧ (s.expireHold).normal = s.normal ∧ (s.expireHold).storm = s.storm ∧
    (s.expireHold).active = s.active ∧ (s.expireHold).plant = s.plant ∧ (s.expireHold).lock = s.lock ∧
    (s.expireHold).switch = s.switch ∧ (s.expireHold).image = s.image ∧ (s.expireHold).storing = s.storing ∧
    (s.expireHold).history = s.history ∧ (s.expireHold).nextSeq = s.nextSeq := by
  unfold State.expireHold
  (repeat' split) <;> simp

@[simp] theorem State.expireFilters_frame (s : State) :
    (s.expireFilters).pending = s.pending ∧ (s.expireFilters).draws = s.draws ∧ (s.expireFilters).phase = s.phase ∧
    (s.expireFilters).clock = s.clock ∧ (s.expireFilters).hundredth = s.hundredth ∧ (s.expireFilters).rate = s.rate ∧
    (s.expireFilters).holder = s.holder ∧ (s.expireFilters).budget = s.budget ∧ (s.expireFilters).hold = s.hold ∧
    (s.expireFilters).holdFlags = s.holdFlags ∧ (s.expireFilters).header = s.header ∧
    (s.expireFilters).outputs = s.outputs ∧ (s.expireFilters).pumpPair = s.pumpPair ∧
    (s.expireFilters).blowerPair = s.blowerPair ∧ (s.expireFilters).inputs = s.inputs ∧
    (s.expireFilters).volume = s.volume ∧ (s.expireFilters).accrual = s.accrual ∧
    (s.expireFilters).normal = s.normal ∧ (s.expireFilters).storm = s.storm ∧ (s.expireFilters).active = s.active ∧
    (s.expireFilters).plant = s.plant ∧ (s.expireFilters).lock = s.lock ∧ (s.expireFilters).switch = s.switch ∧
    (s.expireFilters).image = s.image ∧ (s.expireFilters).storing = s.storing ∧
    (s.expireFilters).history = s.history ∧ (s.expireFilters).nextSeq = s.nextSeq := by
  simp [State.expireFilters, allFilters]

@[simp] theorem State.clipBudget_frame (s : State) :
    (s.clipBudget).pending = s.pending ∧ (s.clipBudget).draws = s.draws ∧ (s.clipBudget).phase = s.phase ∧
    (s.clipBudget).clock = s.clock ∧ (s.clipBudget).hundredth = s.hundredth ∧ (s.clipBudget).rate = s.rate ∧
    (s.clipBudget).ports = s.ports ∧ (s.clipBudget).filters = s.filters ∧ (s.clipBudget).queue = s.queue ∧
    (s.clipBudget).holder = s.holder ∧ (s.clipBudget).hold = s.hold ∧ (s.clipBudget).holdFlags = s.holdFlags ∧
    (s.clipBudget).header = s.header ∧ (s.clipBudget).outputs = s.outputs ∧ (s.clipBudget).pumpPair = s.pumpPair ∧
    (s.clipBudget).blowerPair = s.blowerPair ∧ (s.clipBudget).inputs = s.inputs ∧ (s.clipBudget).volume = s.volume ∧
    (s.clipBudget).accrual = s.accrual ∧ (s.clipBudget).normal = s.normal ∧ (s.clipBudget).storm = s.storm ∧
    (s.clipBudget).active = s.active ∧ (s.clipBudget).plant = s.plant ∧ (s.clipBudget).lock = s.lock ∧
    (s.clipBudget).switch = s.switch ∧ (s.clipBudget).image = s.image ∧ (s.clipBudget).storing = s.storing ∧
    (s.clipBudget).history = s.history ∧ (s.clipBudget).nextSeq = s.nextSeq := by
  simp [State.clipBudget]

@[simp] theorem State.leaveOffline_frame (s : State) :
    (s.leaveOffline).pending = s.pending ∧ (s.leaveOffline).draws = s.draws ∧ (s.leaveOffline).phase = s.phase ∧
    (s.leaveOffline).clock = s.clock ∧ (s.leaveOffline).hundredth = s.hundredth ∧ (s.leaveOffline).rate = s.rate ∧
    (s.leaveOffline).ports = s.ports ∧ (s.leaveOffline).filters = s.filters ∧ (s.leaveOffline).queue = s.queue ∧
    (s.leaveOffline).holder = s.holder ∧ (s.leaveOffline).budget = s.budget ∧ (s.leaveOffline).hold = s.hold ∧
    (s.leaveOffline).holdFlags = s.holdFlags ∧ (s.leaveOffline).outputs = s.outputs ∧
    (s.leaveOffline).pumpPair = s.pumpPair ∧ (s.leaveOffline).blowerPair = s.blowerPair ∧
    (s.leaveOffline).inputs = s.inputs ∧ (s.leaveOffline).volume = s.volume ∧ (s.leaveOffline).accrual = s.accrual ∧
    (s.leaveOffline).normal = s.normal ∧ (s.leaveOffline).storm = s.storm ∧ (s.leaveOffline).active = s.active ∧
    (s.leaveOffline).plant = s.plant ∧ (s.leaveOffline).lock = s.lock ∧ (s.leaveOffline).switch = s.switch ∧
    (s.leaveOffline).image = s.image ∧ (s.leaveOffline).storing = s.storing ∧ (s.leaveOffline).history = s.history ∧
    (s.leaveOffline).nextSeq = s.nextSeq := by
  unfold State.leaveOffline
  split <;> simp

@[simp] theorem State.carrySwitch_frame (s : State) (b : BankId) :
    (s.carrySwitch b).pending = s.pending ∧ (s.carrySwitch b).draws = s.draws ∧ (s.carrySwitch b).phase = s.phase ∧
    (s.carrySwitch b).clock = s.clock ∧ (s.carrySwitch b).hundredth = s.hundredth ∧ (s.carrySwitch b).rate = s.rate ∧
    (s.carrySwitch b).holder = s.holder ∧ (s.carrySwitch b).holdFlags = s.holdFlags ∧
    (s.carrySwitch b).outputs = s.outputs ∧ (s.carrySwitch b).pumpPair = s.pumpPair ∧
    (s.carrySwitch b).blowerPair = s.blowerPair ∧ (s.carrySwitch b).inputs = s.inputs ∧
    (s.carrySwitch b).volume = s.volume ∧ (s.carrySwitch b).accrual = s.accrual ∧
    (s.carrySwitch b).normal = s.normal ∧ (s.carrySwitch b).storm = s.storm ∧ (s.carrySwitch b).plant = s.plant ∧
    (s.carrySwitch b).lock = s.lock ∧ (s.carrySwitch b).image = s.image ∧ (s.carrySwitch b).storing = s.storing ∧
    (s.carrySwitch b).history = s.history ∧ (s.carrySwitch b).nextSeq = s.nextSeq := by
  simp [State.carrySwitch]

@[simp] theorem State.takeSwitch_frame (s : State) :
    (s.takeSwitch).pending = s.pending ∧ (s.takeSwitch).draws = s.draws ∧ (s.takeSwitch).phase = s.phase ∧
    (s.takeSwitch).clock = s.clock ∧ (s.takeSwitch).hundredth = s.hundredth ∧ (s.takeSwitch).rate = s.rate ∧
    (s.takeSwitch).holder = s.holder ∧ (s.takeSwitch).holdFlags = s.holdFlags ∧ (s.takeSwitch).outputs = s.outputs ∧
    (s.takeSwitch).pumpPair = s.pumpPair ∧ (s.takeSwitch).blowerPair = s.blowerPair ∧
    (s.takeSwitch).inputs = s.inputs ∧ (s.takeSwitch).volume = s.volume ∧ (s.takeSwitch).accrual = s.accrual ∧
    (s.takeSwitch).normal = s.normal ∧ (s.takeSwitch).storm = s.storm ∧ (s.takeSwitch).plant = s.plant ∧
    (s.takeSwitch).lock = s.lock ∧ (s.takeSwitch).image = s.image ∧ (s.takeSwitch).storing = s.storing ∧
    (s.takeSwitch).history = s.history ∧ (s.takeSwitch).nextSeq = s.nextSeq := by
  unfold State.takeSwitch
  (repeat' split) <;> simp

@[simp] theorem State.stormActs_frame (s : State) :
    (s.stormActs).pending = s.pending ∧ (s.stormActs).draws = s.draws ∧ (s.stormActs).phase = s.phase ∧
    (s.stormActs).clock = s.clock ∧ (s.stormActs).hundredth = s.hundredth ∧ (s.stormActs).rate = s.rate ∧
    (s.stormActs).ports = s.ports ∧ (s.stormActs).filters = s.filters ∧ (s.stormActs).queue = s.queue ∧
    (s.stormActs).holder = s.holder ∧ (s.stormActs).budget = s.budget ∧ (s.stormActs).hold = s.hold ∧
    (s.stormActs).holdFlags = s.holdFlags ∧ (s.stormActs).header = s.header ∧ (s.stormActs).outputs = s.outputs ∧
    (s.stormActs).pumpPair = s.pumpPair ∧ (s.stormActs).blowerPair = s.blowerPair ∧ (s.stormActs).inputs = s.inputs ∧
    (s.stormActs).volume = s.volume ∧ (s.stormActs).accrual = s.accrual ∧ (s.stormActs).normal = s.normal ∧
    (s.stormActs).storm = s.storm ∧ (s.stormActs).active = s.active ∧ (s.stormActs).plant = s.plant ∧
    (s.stormActs).lock = s.lock ∧ (s.stormActs).image = s.image ∧ (s.stormActs).storing = s.storing ∧
    (s.stormActs).history = s.history ∧ (s.stormActs).nextSeq = s.nextSeq := by
  unfold State.stormActs
  dsimp only
  (repeat' split) <;> simp

@[simp] theorem State.cancelLineSwitch_frame (s : State) :
    (s.cancelLineSwitch).pending = s.pending ∧ (s.cancelLineSwitch).draws = s.draws ∧
    (s.cancelLineSwitch).phase = s.phase ∧ (s.cancelLineSwitch).clock = s.clock ∧
    (s.cancelLineSwitch).hundredth = s.hundredth ∧ (s.cancelLineSwitch).rate = s.rate ∧
    (s.cancelLineSwitch).ports = s.ports ∧ (s.cancelLineSwitch).filters = s.filters ∧
    (s.cancelLineSwitch).queue = s.queue ∧ (s.cancelLineSwitch).holder = s.holder ∧
    (s.cancelLineSwitch).budget = s.budget ∧ (s.cancelLineSwitch).hold = s.hold ∧
    (s.cancelLineSwitch).holdFlags = s.holdFlags ∧ (s.cancelLineSwitch).header = s.header ∧
    (s.cancelLineSwitch).outputs = s.outputs ∧ (s.cancelLineSwitch).pumpPair = s.pumpPair ∧
    (s.cancelLineSwitch).blowerPair = s.blowerPair ∧ (s.cancelLineSwitch).inputs = s.inputs ∧
    (s.cancelLineSwitch).volume = s.volume ∧ (s.cancelLineSwitch).accrual = s.accrual ∧
    (s.cancelLineSwitch).normal = s.normal ∧ (s.cancelLineSwitch).storm = s.storm ∧
    (s.cancelLineSwitch).active = s.active ∧ (s.cancelLineSwitch).plant = s.plant ∧
    (s.cancelLineSwitch).lock = s.lock ∧ (s.cancelLineSwitch).image = s.image ∧
    (s.cancelLineSwitch).storing = s.storing ∧ (s.cancelLineSwitch).history = s.history ∧
    (s.cancelLineSwitch).nextSeq = s.nextSeq := by
  unfold State.cancelLineSwitch
  split <;> simp

@[simp] theorem State.applyTimes_frame (s : State) (p : PortNo) :
    (s.applyTimes p).pending = s.pending ∧ (s.applyTimes p).draws = s.draws ∧ (s.applyTimes p).phase = s.phase ∧
    (s.applyTimes p).clock = s.clock ∧ (s.applyTimes p).hundredth = s.hundredth ∧ (s.applyTimes p).rate = s.rate ∧
    (s.applyTimes p).holder = s.holder ∧ (s.applyTimes p).budget = s.budget ∧ (s.applyTimes p).inputs = s.inputs ∧
    (s.applyTimes p).volume = s.volume ∧ (s.applyTimes p).normal = s.normal ∧ (s.applyTimes p).storm = s.storm ∧
    (s.applyTimes p).active = s.active ∧ (s.applyTimes p).plant = s.plant ∧ (s.applyTimes p).switch = s.switch ∧
    (s.applyTimes p).image = s.image ∧ (s.applyTimes p).storing = s.storing := by
  unfold State.applyTimes
  (repeat' split) <;> simp

@[simp] theorem State.applyTimesAll_frame (s : State) :
    (s.applyTimesAll).pending = s.pending ∧ (s.applyTimesAll).draws = s.draws ∧ (s.applyTimesAll).phase = s.phase ∧
    (s.applyTimesAll).clock = s.clock ∧ (s.applyTimesAll).hundredth = s.hundredth ∧ (s.applyTimesAll).rate = s.rate ∧
    (s.applyTimesAll).holder = s.holder ∧ (s.applyTimesAll).budget = s.budget ∧ (s.applyTimesAll).inputs = s.inputs ∧
    (s.applyTimesAll).volume = s.volume ∧ (s.applyTimesAll).normal = s.normal ∧ (s.applyTimesAll).storm = s.storm ∧
    (s.applyTimesAll).active = s.active ∧ (s.applyTimesAll).plant = s.plant ∧ (s.applyTimesAll).switch = s.switch ∧
    (s.applyTimesAll).image = s.image ∧ (s.applyTimesAll).storing = s.storing := by
  simp [State.applyTimesAll, allPorts]

@[simp] theorem State.levelEffects_frame (s : State) (i : Input) :
    (s.levelEffects i).pending = s.pending ∧ (s.levelEffects i).draws = s.draws ∧
    (s.levelEffects i).phase = s.phase ∧ (s.levelEffects i).clock = s.clock ∧
    (s.levelEffects i).hundredth = s.hundredth ∧ (s.levelEffects i).rate = s.rate ∧
    (s.levelEffects i).holder = s.holder ∧ (s.levelEffects i).budget = s.budget ∧ (s.levelEffects i).hold = s.hold ∧
    (s.levelEffects i).holdFlags = s.holdFlags ∧ (s.levelEffects i).inputs = s.inputs ∧
    (s.levelEffects i).normal = s.normal ∧ (s.levelEffects i).storm = s.storm ∧
    (s.levelEffects i).active = s.active ∧ (s.levelEffects i).plant = s.plant ∧ (s.levelEffects i).lock = s.lock ∧
    (s.levelEffects i).image = s.image ∧ (s.levelEffects i).storing = s.storing := by
  unfold State.levelEffects
  (repeat' split) <;> simp

@[simp] theorem State.qualify_frame (s : State) (i : Input) :
    (s.qualify i).pending = s.pending ∧ (s.qualify i).draws = s.draws ∧ (s.qualify i).phase = s.phase ∧
    (s.qualify i).clock = s.clock ∧ (s.qualify i).hundredth = s.hundredth ∧ (s.qualify i).rate = s.rate ∧
    (s.qualify i).holder = s.holder ∧ (s.qualify i).budget = s.budget ∧ (s.qualify i).hold = s.hold ∧
    (s.qualify i).holdFlags = s.holdFlags ∧ (s.qualify i).normal = s.normal ∧ (s.qualify i).storm = s.storm ∧
    (s.qualify i).active = s.active ∧ (s.qualify i).plant = s.plant ∧ (s.qualify i).lock = s.lock ∧
    (s.qualify i).image = s.image ∧ (s.qualify i).storing = s.storing := by
  unfold State.qualify
  split <;> simp

@[simp] theorem State.breakHold_frame (s : State) :
    (s.breakHold).pending = s.pending ∧ (s.breakHold).draws = s.draws ∧ (s.breakHold).phase = s.phase ∧
    (s.breakHold).clock = s.clock ∧ (s.breakHold).hundredth = s.hundredth ∧ (s.breakHold).rate = s.rate ∧
    (s.breakHold).filters = s.filters ∧ (s.breakHold).queue = s.queue ∧ (s.breakHold).holder = s.holder ∧
    (s.breakHold).budget = s.budget ∧ (s.breakHold).holdFlags = s.holdFlags ∧ (s.breakHold).header = s.header ∧
    (s.breakHold).outputs = s.outputs ∧ (s.breakHold).pumpPair = s.pumpPair ∧
    (s.breakHold).blowerPair = s.blowerPair ∧ (s.breakHold).inputs = s.inputs ∧ (s.breakHold).volume = s.volume ∧
    (s.breakHold).accrual = s.accrual ∧ (s.breakHold).normal = s.normal ∧ (s.breakHold).storm = s.storm ∧
    (s.breakHold).active = s.active ∧ (s.breakHold).plant = s.plant ∧ (s.breakHold).lock = s.lock ∧
    (s.breakHold).switch = s.switch ∧ (s.breakHold).image = s.image ∧ (s.breakHold).storing = s.storing ∧
    (s.breakHold).history = s.history ∧ (s.breakHold).nextSeq = s.nextSeq := by
  unfold State.breakHold
  (repeat' split) <;> simp

@[simp] theorem State.callFilter_frame (s : State) (f : FilterNo) :
    (s.callFilter f).pending = s.pending ∧ (s.callFilter f).draws = s.draws ∧ (s.callFilter f).phase = s.phase ∧
    (s.callFilter f).clock = s.clock ∧ (s.callFilter f).hundredth = s.hundredth ∧ (s.callFilter f).rate = s.rate ∧
    (s.callFilter f).ports = s.ports ∧ (s.callFilter f).holder = s.holder ∧ (s.callFilter f).budget = s.budget ∧
    (s.callFilter f).hold = s.hold ∧ (s.callFilter f).holdFlags = s.holdFlags ∧ (s.callFilter f).header = s.header ∧
    (s.callFilter f).outputs = s.outputs ∧ (s.callFilter f).pumpPair = s.pumpPair ∧
    (s.callFilter f).blowerPair = s.blowerPair ∧ (s.callFilter f).inputs = s.inputs ∧
    (s.callFilter f).volume = s.volume ∧ (s.callFilter f).accrual = s.accrual ∧ (s.callFilter f).normal = s.normal ∧
    (s.callFilter f).storm = s.storm ∧ (s.callFilter f).active = s.active ∧ (s.callFilter f).plant = s.plant ∧
    (s.callFilter f).lock = s.lock ∧ (s.callFilter f).switch = s.switch ∧ (s.callFilter f).image = s.image ∧
    (s.callFilter f).storing = s.storing ∧ (s.callFilter f).history = s.history ∧ (s.callFilter f).nextSeq = s.nextSeq := by
  unfold State.callFilter
  split <;> simp

@[simp] theorem State.passTenure_frame (s : State) (p : PortNo) :
    (s.passTenure p).pending = s.pending ∧ (s.passTenure p).draws = s.draws ∧ (s.passTenure p).phase = s.phase ∧
    (s.passTenure p).clock = s.clock ∧ (s.passTenure p).hundredth = s.hundredth ∧ (s.passTenure p).rate = s.rate ∧
    (s.passTenure p).filters = s.filters ∧ (s.passTenure p).queue = s.queue ∧ (s.passTenure p).header = s.header ∧
    (s.passTenure p).outputs = s.outputs ∧ (s.passTenure p).pumpPair = s.pumpPair ∧
    (s.passTenure p).blowerPair = s.blowerPair ∧ (s.passTenure p).inputs = s.inputs ∧
    (s.passTenure p).volume = s.volume ∧ (s.passTenure p).accrual = s.accrual ∧ (s.passTenure p).normal = s.normal ∧
    (s.passTenure p).storm = s.storm ∧ (s.passTenure p).active = s.active ∧ (s.passTenure p).plant = s.plant ∧
    (s.passTenure p).lock = s.lock ∧ (s.passTenure p).switch = s.switch ∧ (s.passTenure p).image = s.image ∧
    (s.passTenure p).storing = s.storing ∧ (s.passTenure p).history = s.history ∧ (s.passTenure p).nextSeq = s.nextSeq := by
  unfold State.passTenure
  (repeat' split) <;> simp

@[simp] theorem State.updateTenure_frame (s : State) (p : PortNo) (rival : Bool) :
    (s.updateTenure p rival).pending = s.pending ∧ (s.updateTenure p rival).draws = s.draws ∧
    (s.updateTenure p rival).phase = s.phase ∧ (s.updateTenure p rival).clock = s.clock ∧
    (s.updateTenure p rival).hundredth = s.hundredth ∧ (s.updateTenure p rival).rate = s.rate ∧
    (s.updateTenure p rival).filters = s.filters ∧ (s.updateTenure p rival).queue = s.queue ∧
    (s.updateTenure p rival).header = s.header ∧ (s.updateTenure p rival).outputs = s.outputs ∧
    (s.updateTenure p rival).pumpPair = s.pumpPair ∧ (s.updateTenure p rival).blowerPair = s.blowerPair ∧
    (s.updateTenure p rival).inputs = s.inputs ∧ (s.updateTenure p rival).volume = s.volume ∧
    (s.updateTenure p rival).accrual = s.accrual ∧ (s.updateTenure p rival).normal = s.normal ∧
    (s.updateTenure p rival).storm = s.storm ∧ (s.updateTenure p rival).active = s.active ∧
    (s.updateTenure p rival).plant = s.plant ∧ (s.updateTenure p rival).lock = s.lock ∧
    (s.updateTenure p rival).switch = s.switch ∧ (s.updateTenure p rival).image = s.image ∧
    (s.updateTenure p rival).storing = s.storing ∧ (s.updateTenure p rival).history = s.history ∧
    (s.updateTenure p rival).nextSeq = s.nextSeq := by
  unfold State.updateTenure
  (repeat' split) <;> simp

@[simp] theorem State.select_frame (s : State) (f : FilterNo) (r : Filter) :
    (s.select f r).pending = s.pending ∧ (s.select f r).draws = s.draws ∧ (s.select f r).phase = s.phase ∧
    (s.select f r).clock = s.clock ∧ (s.select f r).hundredth = s.hundredth ∧ (s.select f r).rate = s.rate ∧
    (s.select f r).outputs = s.outputs ∧ (s.select f r).pumpPair = s.pumpPair ∧
    (s.select f r).blowerPair = s.blowerPair ∧ (s.select f r).inputs = s.inputs ∧ (s.select f r).volume = s.volume ∧
    (s.select f r).accrual = s.accrual ∧ (s.select f r).normal = s.normal ∧ (s.select f r).storm = s.storm ∧
    (s.select f r).active = s.active ∧ (s.select f r).plant = s.plant ∧ (s.select f r).lock = s.lock ∧
    (s.select f r).switch = s.switch ∧ (s.select f r).image = s.image ∧ (s.select f r).storing = s.storing ∧
    (s.select f r).history = s.history ∧ (s.select f r).nextSeq = s.nextSeq := by
  simp [State.select]

@[simp] theorem State.trySelect_frame (s : State) :
    (s.trySelect).pending = s.pending ∧ (s.trySelect).draws = s.draws ∧ (s.trySelect).phase = s.phase ∧
    (s.trySelect).clock = s.clock ∧ (s.trySelect).hundredth = s.hundredth ∧ (s.trySelect).rate = s.rate ∧
    (s.trySelect).outputs = s.outputs ∧ (s.trySelect).pumpPair = s.pumpPair ∧
    (s.trySelect).blowerPair = s.blowerPair ∧ (s.trySelect).inputs = s.inputs ∧ (s.trySelect).volume = s.volume ∧
    (s.trySelect).accrual = s.accrual ∧ (s.trySelect).normal = s.normal ∧ (s.trySelect).storm = s.storm ∧
    (s.trySelect).active = s.active ∧ (s.trySelect).plant = s.plant ∧ (s.trySelect).lock = s.lock ∧
    (s.trySelect).switch = s.switch ∧ (s.trySelect).image = s.image ∧ (s.trySelect).storing = s.storing ∧
    (s.trySelect).history = s.history ∧ (s.trySelect).nextSeq = s.nextSeq := by
  unfold State.trySelect
  (repeat' split) <;> simp

@[simp] theorem State.evaluate_frame (s : State) :
    (s.evaluate).pending = s.pending ∧ (s.evaluate).draws = s.draws ∧ (s.evaluate).phase = s.phase ∧
    (s.evaluate).clock = s.clock ∧ (s.evaluate).hundredth = s.hundredth ∧ (s.evaluate).rate = s.rate ∧
    (s.evaluate).outputs = s.outputs ∧ (s.evaluate).pumpPair = s.pumpPair ∧ (s.evaluate).blowerPair = s.blowerPair ∧
    (s.evaluate).inputs = s.inputs ∧ (s.evaluate).volume = s.volume ∧ (s.evaluate).accrual = s.accrual ∧
    (s.evaluate).normal = s.normal ∧ (s.evaluate).storm = s.storm ∧ (s.evaluate).active = s.active ∧
    (s.evaluate).plant = s.plant ∧ (s.evaluate).lock = s.lock ∧ (s.evaluate).switch = s.switch ∧
    (s.evaluate).image = s.image ∧ (s.evaluate).storing = s.storing ∧ (s.evaluate).history = s.history ∧
    (s.evaluate).nextSeq = s.nextSeq := by
  unfold State.evaluate
  split <;> simp

@[simp] theorem State.expireZeroGap_frame (s : State) :
    (s.expireZeroGap).pending = s.pending ∧ (s.expireZeroGap).draws = s.draws ∧ (s.expireZeroGap).phase = s.phase ∧
    (s.expireZeroGap).clock = s.clock ∧ (s.expireZeroGap).hundredth = s.hundredth ∧ (s.expireZeroGap).rate = s.rate ∧
    (s.expireZeroGap).ports = s.ports ∧ (s.expireZeroGap).filters = s.filters ∧ (s.expireZeroGap).queue = s.queue ∧
    (s.expireZeroGap).holder = s.holder ∧ (s.expireZeroGap).budget = s.budget ∧ (s.expireZeroGap).hold = s.hold ∧
    (s.expireZeroGap).holdFlags = s.holdFlags ∧ (s.expireZeroGap).outputs = s.outputs ∧
    (s.expireZeroGap).pumpPair = s.pumpPair ∧ (s.expireZeroGap).blowerPair = s.blowerPair ∧
    (s.expireZeroGap).inputs = s.inputs ∧ (s.expireZeroGap).volume = s.volume ∧
    (s.expireZeroGap).accrual = s.accrual ∧ (s.expireZeroGap).normal = s.normal ∧ (s.expireZeroGap).storm = s.storm ∧
    (s.expireZeroGap).active = s.active ∧ (s.expireZeroGap).plant = s.plant ∧ (s.expireZeroGap).lock = s.lock ∧
    (s.expireZeroGap).switch = s.switch ∧ (s.expireZeroGap).image = s.image ∧ (s.expireZeroGap).storing = s.storing ∧
    (s.expireZeroGap).history = s.history ∧ (s.expireZeroGap).nextSeq = s.nextSeq := by
  unfold State.expireZeroGap
  split <;> simp

@[simp] theorem State.atOnce_frame (s : State) :
    (s.atOnce).pending = s.pending ∧ (s.atOnce).draws = s.draws ∧ (s.atOnce).phase = s.phase ∧
    (s.atOnce).clock = s.clock ∧ (s.atOnce).hundredth = s.hundredth ∧ (s.atOnce).rate = s.rate ∧
    (s.atOnce).outputs = s.outputs ∧ (s.atOnce).pumpPair = s.pumpPair ∧ (s.atOnce).blowerPair = s.blowerPair ∧
    (s.atOnce).inputs = s.inputs ∧ (s.atOnce).volume = s.volume ∧ (s.atOnce).accrual = s.accrual ∧
    (s.atOnce).normal = s.normal ∧ (s.atOnce).storm = s.storm ∧ (s.atOnce).plant = s.plant ∧
    (s.atOnce).lock = s.lock ∧ (s.atOnce).image = s.image ∧ (s.atOnce).storing = s.storing ∧
    (s.atOnce).history = s.history ∧ (s.atOnce).nextSeq = s.nextSeq := by
  simp [State.atOnce]

end Sys2Proof.Machine
end

