-- ==== Sys2Proof/Laws/Reads.lean ====
section
/-! SUPPORT. What the named reads give after the named writes: repeated writes, writes of a present record, and every read
through a good frame, a reply and a change of the header. -/

namespace Sys2Proof.Machine

/-! ### The later of two writes stands -/

@[simp] theorem ByPort.set_set {α : Type} (v : ByPort α) (p : PortNo) (x y : α) : (v.set p x).set p y = v.set p y := by
  fin_cases p <;> rfl

@[simp] theorem PerInput.set_set {α : Type} (v : PerInput α) (i : Input) (x y : α) : (v.set i x).set i y = v.set i y := by
  cases i <;> rfl

@[simp] theorem Table.set_set {α : Type} (t : Table α) (f : FilterNo) (x y : α) : (t.set f x).set f y = t.set f y := by
  simp [Table.set]

@[simp] theorem State.setPort_setPort (s : State) (p : PortNo) (q r : Port) : (s.setPort p q).setPort p r = s.setPort p r := by
  simp [State.setPort]

@[simp] theorem State.setFilter_setFilter (s : State) (f : FilterNo) (x y : Option Filter) :
    (s.setFilter f x).setFilter f y = s.setFilter f y := by
  simp [State.setFilter]

@[simp] theorem State.setInput_setInput (s : State) (i : Input) (x y : InputLine) :
    (s.setInput i x).setInput i y = s.setInput i y := by
  simp [State.setInput]

/-! ### Writes of a present record -/

theorem State.mapFilter_some {s : State} {f : FilterNo} {r : Filter} (h : s.filter f = some r) (g : Filter → Filter) :
    s.mapFilter f g = s.setFilter f (some (g r)) := by
  simp [State.mapFilter, h]

theorem State.setService_some {s : State} {f : FilterNo} {r : Filter} (h : s.filter f = some r) (v : Service) :
    s.setService f v = s.setFilter f (some { r with service := v }) := State.mapFilter_some h _

/-! ### Reads depend on the fields they name -/

theorem State.filter_congr {s t : State} (h : t.filters = s.filters) (f : FilterNo) : t.filter f = s.filter f := by
  simp [State.filter, h]

theorem State.bank_congr {s t : State} (h : t.normal = s.normal) (h' : t.storm = s.storm) (b : BankId) :
    t.bank b = s.bank b := by
  cases b <;> simp [State.bank, h, h']

theorem State.activeBank_congr {s t : State} (h : t.normal = s.normal) (h' : t.storm = s.storm) (ha : t.active = s.active) :
    t.activeBank = s.activeBank := by
  simp [State.activeBank, ha, State.bank_congr h h']

theorem State.runTimeOver_congr {s t : State} (h : t.activeBank = s.activeBank) (hc : t.clock = s.clock) (start : Int) :
    t.runTimeOver start = s.runTimeOver start := by
  simp [State.runTimeOver, h, hc]

theorem State.asserted_congr {s t : State} (h : t.inputs = s.inputs) (i : Input) : t.asserted i = s.asserted i := by
  simp [State.asserted, h]

theorem State.inServiceCount_congr {s t : State} (h : t.filters = s.filters) : t.inServiceCount = s.inServiceCount := by
  simp [State.inServiceCount, h]

theorem State.dueFields_congr {s t : State} (h : t.filters = s.filters) (f : FilterNo) : t.dueFields f = s.dueFields f := by
  simp [State.dueFields, State.filter_congr h]

theorem State.precedes_congr {s t : State} (h : t.filters = s.filters) (f g : FilterNo) :
    t.precedes f g = s.precedes f g := by
  simp [State.precedes, State.dueFields_congr h]

theorem State.validBank_congr {s t : State} (hf : t.filters = s.filters) (hn : t.normal = s.normal)
    (hs : t.storm = s.storm) (hp : t.plant = s.plant) (b : BankId) : t.validBank b = s.validBank b := by
  have hb := State.bank_congr hn hs b
  unfold State.validBank State.presentCount State.recipeFits
  rw [hf, hp, hb]

/-! ### Reads through a good frame -/

@[simp] theorem State.goodFrame_filter (s : State) (p : PortNo) (f : FilterNo) : (s.goodFrame p).filter f = s.filter f :=
  State.filter_congr (by simp) f

@[simp] theorem State.goodFrame_bank (s : State) (p : PortNo) (b : BankId) : (s.goodFrame p).bank b = s.bank b :=
  State.bank_congr (by simp) (by simp) b

@[simp] theorem State.goodFrame_activeBank (s : State) (p : PortNo) : (s.goodFrame p).activeBank = s.activeBank :=
  State.activeBank_congr (by simp) (by simp) (by simp)

@[simp] theorem State.goodFrame_asserted (s : State) (p : PortNo) (i : Input) : (s.goodFrame p).asserted i = s.asserted i :=
  State.asserted_congr (by simp) i

@[simp] theorem State.goodFrame_inServiceCount (s : State) (p : PortNo) :
    (s.goodFrame p).inServiceCount = s.inServiceCount := State.inServiceCount_congr (by simp)

@[simp] theorem State.goodFrame_runTimeOver (s : State) (p : PortNo) (start : Int) :
    (s.goodFrame p).runTimeOver start = s.runTimeOver start := State.runTimeOver_congr (by simp) (by simp) start

@[simp] theorem State.goodFrame_validBank (s : State) (p : PortNo) (b : BankId) :
    (s.goodFrame p).validBank b = s.validBank b :=
  State.validBank_congr (by simp) (by simp) (by simp) (by simp) b

@[simp] theorem State.goodFrame_dueFields (s : State) (p : PortNo) (f : FilterNo) :
    (s.goodFrame p).dueFields f = s.dueFields f := State.dueFields_congr (by simp) f

/-! ### Reads through a write of another field -/

@[simp] theorem State.setFilter_activeBank (s : State) (f : FilterNo) (r : Option Filter) :
    (s.setFilter f r).activeBank = s.activeBank := State.activeBank_congr rfl rfl rfl

@[simp] theorem State.setFilter_runTimeOver (s : State) (f : FilterNo) (r : Option Filter) (start : Int) :
    (s.setFilter f r).runTimeOver start = s.runTimeOver start := rfl

@[simp] theorem State.setFilter_asserted (s : State) (f : FilterNo) (r : Option Filter) (i : Input) :
    (s.setFilter f r).asserted i = s.asserted i := rfl

@[simp] theorem State.enqueue_filter (s : State) (f g : FilterNo) : (s.enqueue f).filter g = s.filter g := rfl

@[simp] theorem State.enqueue_runTimeOver (s : State) (f : FilterNo) (start : Int) :
    (s.enqueue f).runTimeOver start = s.runTimeOver start := rfl

@[simp] theorem State.dequeue_filter (s : State) (f g : FilterNo) : (s.dequeue f).filter g = s.filter g := rfl

@[simp] theorem State.dequeue_runTimeOver (s : State) (f : FilterNo) (start : Int) :
    (s.dequeue f).runTimeOver start = s.runTimeOver start := rfl

@[simp] theorem State.withHeader_filter (s : State) (h : Header) (f : FilterNo) : (s.withHeader h).filter f = s.filter f := rfl

@[simp] theorem State.withHeader_asserted (s : State) (h : Header) (i : Input) :
    (s.withHeader h).asserted i = s.asserted i := rfl

@[simp] theorem State.setOutputs_filter (s : State) (o : Lines) (n : Nat) (f : FilterNo) :
    (s.setOutputs o n).filter f = s.filter f := rfl

@[simp] theorem State.setOutputs_asserted (s : State) (o : Lines) (n : Nat) (i : Input) :
    (s.setOutputs o n).asserted i = s.asserted i := rfl

@[simp] theorem State.setPort_filter (s : State) (p : PortNo) (q : Port) (f : FilterNo) :
    (s.setPort p q).filter f = s.filter f := rfl

@[simp] theorem State.postTo_filter (s : State) (p : PortNo) (n : Notice) (f : FilterNo) :
    (s.postTo p n).filter f = s.filter f := rfl

/-! ### Signed fields (R172) -/

/-- A number in the field's range is sent in two's complement. -/
theorem leSigned32_of_fits {z : Int} (h : fitsSigned32 z = true) : leSigned32 z = le32 (BitVec.ofInt 32 z).toNat := by
  simp [leSigned32, h]

/-- A number outside it is sent as a free value (log 30). -/
theorem leSigned32_of_overflow {z : Int} (h : fitsSigned32 z = false) :
    leSigned32 z = le32 (Config.overflowServiceStart z).toNat := by
  simp [leSigned32, h]

/-! ### The queue -/

/-- A placed entry joins the entries that stand. -/
theorem mem_placeEntry (before : FilterNo → Bool) (f g : FilterNo) (l : List FilterNo) :
    g ∈ placeEntry before f l ↔ g = f ∨ g ∈ l := by
  induction l with
  | nil => simp [placeEntry]
  | cons a l ih =>
    simp only [placeEntry]
    split
    · simp
    · simp only [List.mem_cons, ih]; tauto

@[simp] theorem State.mem_enqueue (s : State) (f g : FilterNo) : g ∈ (s.enqueue f).queue ↔ g = f ∨ g ∈ s.queue :=
  mem_placeEntry _ f g s.queue

@[simp] theorem State.mem_dequeue (s : State) (f g : FilterNo) : g ∈ (s.dequeue f).queue ↔ g ∈ s.queue ∧ g ≠ f := by
  simp [State.dequeue]

/-- RUNTIME joined to a set of reasons adds that reason alone (R10). -/
@[simp] theorem Reasons.join_ofRuntime (r : Reasons) : r.join Reasons.ofRuntime = { r with runtime := true } := by
  obtain ⟨h, t, u, st⟩ := r
  cases st <;> simp [Reasons.join, Reasons.ofRuntime, Reasons.clear]

/-- RUNTIME implies no class above ROUTINE (R7). -/
@[simp] theorem Reasons.cls_runtime (r : Reasons) : Reasons.cls { r with runtime := true } = r.cls := rfl

/-! ### Order (R26, R28, R31) -/

/-- An entry put in its place leaves the others as they were. -/
theorem filter_placeEntry (before : FilterNo → Bool) (f : FilterNo) (l : List FilterNo) :
    (placeEntry before f l).filter (· != f) = l.filter (· != f) := by
  induction l with
  | nil => simp [placeEntry]
  | cons g gs ih =>
    simp only [placeEntry]
    split
    · simp
    · rw [List.filter_cons, List.filter_cons, ih]

/-- Of two DUE filters, one comes before the other (R26). -/
theorem State.precedes_total {s : State} {f g : FilterNo} (hf : s.isDue f = true) (hg : s.isDue g = true) (h : f ≠ g)
    (hn : s.precedes f g = false) : s.precedes g f = true := by
  simp only [State.isDue, Option.isSome_iff_exists] at hf hg
  obtain ⟨d, hd⟩ := hf
  obtain ⟨e, he⟩ := hg
  simp only [State.precedes, hd, he, keyBefore, Bool.or_eq_true, Bool.or_eq_false_iff, Bool.and_eq_true,
    Bool.and_eq_false_iff, decide_eq_true_eq, decide_eq_false_iff_not, beq_iff_eq, beq_eq_false_iff_ne] at hn ⊢
  have := Fin.val_ne_of_ne h
  simp only [Fin.lt_def] at hn ⊢
  omega

/-- The order of R26 is transitive. -/
theorem State.precedes_trans {s : State} {f g h : FilterNo} (h1 : s.precedes f g = true) (h2 : s.precedes g h = true) :
    s.precedes f h = true := by
  unfold State.precedes at h1 h2 ⊢
  cases hd : s.dueFields f <;> cases he : s.dueFields g <;> cases hx : s.dueFields h <;>
    simp only [hd, he, hx, reduceCtorEq] at h1 h2 ⊢
  simp only [keyBefore, Bool.or_eq_true, Bool.and_eq_true, decide_eq_true_eq, beq_iff_eq, Fin.lt_def] at h1 h2 ⊢
  omega

/-- A DUE entry put in its place in an ordered queue leaves it ordered (R26, R28). -/
theorem State.pairwise_placeEntry (s : State) (f : FilterNo) (hf : s.isDue f = true) (l : List FilterNo)
    (hl : ∀ g ∈ l, s.isDue g = true ∧ g ≠ f) (hp : l.Pairwise fun g h => s.precedes g h = true) :
    (placeEntry (s.precedes f) f l).Pairwise fun g h => s.precedes g h = true := by
  induction l with
  | nil => simp [placeEntry]
  | cons g gs ih =>
    rw [List.pairwise_cons] at hp
    simp only [placeEntry]
    split
    · rename_i hb
      refine List.pairwise_cons.2 ⟨fun x hx => ?_, List.pairwise_cons.2 hp⟩
      rcases List.mem_cons.1 hx with rfl | hx
      · exact hb
      · exact State.precedes_trans hb (hp.1 x hx)
    · rename_i hb
      have hg := hl g (by simp)
      refine List.pairwise_cons.2 ⟨fun x hx => ?_, ih (fun x hx => hl x (by simp [hx])) hp.2⟩
      rcases (mem_placeEntry _ _ _ _).1 hx with rfl | hx
      · exact State.precedes_total hf hg.1 (Ne.symm hg.2) (by simpa using hb)
      · exact hp.1 x hx

/-- An entry removed, if there was one, and put in its place anew is Requeued. -/
theorem Requeued.of_placed {s t : State} {f : FilterNo} (hf : t.isDue f = true) (ho : ∀ g, g ≠ f → t.filter g = s.filter g)
    (hq : t.queue = placeEntry (t.precedes f) f (s.queue.filter (· != f))) : Requeued s t f where
  held := by rw [hq]; exact (mem_placeEntry _ _ _ _).2 (Or.inl rfl)
  others := by rw [hq, filter_placeEntry, List.filter_filter]; simp
  order := by
    intro hr
    have hd : ∀ g, g ≠ f → t.dueFields g = s.dueFields g := fun g hg => by simp only [State.dueFields, ho g hg]
    rw [hq]
    refine t.pairwise_placeEntry f hf _ (fun g hg => ?_) ?_
    · simp only [List.mem_filter, bne_iff_ne] at hg
      refine ⟨?_, hg.2⟩
      rw [State.isDue, hd g hg.2]
      exact (hr.member g).1 hg.1
    · refine (hr.order.filter _).imp_of_mem fun {g h} hg hh hp => ?_
      simp only [List.mem_filter, bne_iff_ne] at hg hh
      simpa only [State.precedes, hd g hg.2, hd h hh.2] using hp

end Sys2Proof.Machine
end

