-- ==== Sys2Proof/Laws/Events.lean ====
section
/-! SUPPORT. What taking a frame, a request and an event do, said once. -/

namespace Sys2Proof.Machine

/-! ### Posts -/

@[simp] theorem Port.post_state (q : Port) (n : Notice) : (q.post n).state = q.state := rfl
@[simp] theorem Port.post_name (q : Port) (n : Notice) : (q.post n).name = q.name := rfl
@[simp] theorem Port.post_badCount (q : Port) (n : Notice) : (q.post n).badCount = q.badCount := rfl
@[simp] theorem Port.post_receiver (q : Port) (n : Notice) : (q.post n).receiver = q.receiver := rfl
@[simp] theorem Port.post_replies (q : Port) (n : Notice) : (q.post n).replies = q.replies := rfl
@[simp] theorem Port.post_lastGood (q : Port) (n : Notice) : (q.post n).lastGood = q.lastGood := rfl
@[simp] theorem Port.post_mask (q : Port) (n : Notice) : (q.post n).mask = q.mask := rfl
@[simp] theorem Port.post_txFrame (q : Port) (n : Notice) : (q.post n).txFrame = q.txFrame := rfl

/-- A post to a port changes its latches alone. -/
theorem State.port_postTo (s : State) (p i : PortNo) (n : Notice) :
    (s.postTo p n).port i = if i = p then (s.port p).post n else s.port i := by
  by_cases h : i = p
  · subst h; simp [State.postTo]
  · simp [State.postTo, h, State.port_setPort_ne _ _ h]

/-- A post to every attached port changes latches alone. -/
theorem State.port_postAttached (s : State) (i : PortNo) (n : Notice) :
    (s.postAttached n).port i = if (s.port i).state.isAttached then (s.port i).post n else s.port i := by
  rw [State.postAttached, State.port, ByPort.get_mapIdx]
  rfl

/-- PEER goes to the other attached ports. -/
theorem State.port_postPeers (s : State) (p i : PortNo) :
    (s.postPeers p).port i =
      if i ≠ p ∧ (s.port i).state.isAttached then (s.port i).post (.peer p (s.port p).state) else s.port i := by
  rw [State.postPeers, State.port, ByPort.get_mapIdx]
  rfl

/-! ### Good frames (R148, R155) -/

/-- The port that a good frame leaves. -/
theorem State.port_goodFrame (s : State) (p : PortNo) :
    (s.goodFrame p).port p =
      { s.port p with
        state := if (s.port p).state = .quiet then .attached else (s.port p).state
        badCount := 0, lastGood := s.clock, receiver := .hunting } := by
  by_cases h : (s.port p).state = .quiet
  · simp [State.goodFrame, h, State.port_postPeers, State.setPortState]
  · simp [State.goodFrame, h]

/-- At an ATTACHED port a good frame changes that port alone. -/
theorem State.goodFrame_attached (s : State) (p : PortNo) (h : (s.port p).state ≠ .quiet) :
    s.goodFrame p = s.setPort p { s.port p with badCount := 0, lastGood := s.clock, receiver := .hunting } := by
  simp [State.goodFrame, h]

theorem PortState.isAttached_cases {st : PortState} (h : st.isAttached = true) : st = .attached ∨ st = .quiet := by
  cases st <;> simp_all [PortState.isAttached]

theorem Ready.goodFrame_state {s : State} {p : PortNo} (h : Ready s p) : ((s.goodFrame p).port p).state = .attached := by
  rw [State.port_goodFrame]
  rcases PortState.isAttached_cases h.attached with e | e <;> simp [e]

theorem Ready.takesFrame {s : State} {p : PortNo} (h : Ready s p) : s.takesFrame p = true := by
  have hr := h.receiving
  rcases PortState.isAttached_cases h.attached with e | e <;>
    simp [State.takesFrame, State.receives, h.running, e, hr]

theorem Ready.room_after {s : State} {p : PortNo} (h : Ready s p) : (s.goodFrame p).repliesFull p = false := by
  have := h.room
  simp [State.repliesFull, State.port_goodFrame]
  omega

/-! ### Requests (R151, R152) -/

/-- A request in form at a ready port is taken by its owning block, and answered. -/
theorem Ready.request {s : State} {p : PortNo} (h : Ready s p) {kind : Nat} (tag : Nat) (act : State → State × Answer)
    (hk : knownKind kind = true) :
    s.request p kind tag true act = (act (s.goodFrame p)).1.answered p kind tag (act (s.goodFrame p)).2 := by
  simp [State.request, h.takesFrame, h.room_after, State.portRefusal, hk, h.goodFrame_state, PortState.takes,
    State.answered]

/-- A request out of form at a ready port is refused BAD_FORMAT. -/
theorem Ready.request_badForm {s : State} {p : PortNo} (h : Ready s p) {kind : Nat} (tag : Nat)
    (act : State → State × Answer) (hk : knownKind kind = true) :
    s.request p kind tag false act = (s.goodFrame p).answered p kind tag (.refused .badFormat) := by
  simp [State.request, h.takesFrame, h.room_after, State.portRefusal, hk, h.goodFrame_state, PortState.takes,
    State.answered]

/-- A frame heard at an attached port makes the port ready, and a ready port hears. -/
theorem Hears.ready {s : State} {p : PortNo} (h : Hears s p) (ha : (s.port p).state.isAttached = true) : Ready s p := by
  have ht := h.takes
  simp only [State.takesFrame, Bool.and_eq_true, bne_iff_ne] at ht
  exact ⟨h.toSettled, ha, ht.2, h.room⟩

theorem Ready.hears {s : State} {p : PortNo} (h : Ready s p) : Hears s p := ⟨h.toSettled, h.takesFrame, h.room⟩

theorem Hears.room_after {s : State} {p : PortNo} (h : Hears s p) : (s.goodFrame p).repliesFull p = false := by
  have := h.room
  simp [State.repliesFull, State.port_goodFrame]
  omega

/-- A request that the port refuses of itself: the good frame counts, and the refusal is the reply. -/
theorem Hears.request_refused {s : State} {p : PortNo} (h : Hears s p) {kind : Nat} (tag : Nat) {form : Bool}
    (act : State → State × Answer) {code : RefusalCode} (hr : (s.goodFrame p).portRefusal p kind form = some code) :
    s.request p kind tag form act = (s.goodFrame p).answered p kind tag (.refused code) := by
  simp [State.request, h.takes, h.room_after, hr, State.answered]

/-- A request at a full reply queue leaves what its good frame made (R151). -/
theorem State.request_full {s : State} {p : PortNo} (ht : s.takesFrame p = true)
    (hf : replyLimit ≤ (s.port p).replies.length) (kind tag : Nat) (form : Bool) (act : State → State × Answer) :
    s.request p kind tag form act = s.goodFrame p := by
  have : (s.goodFrame p).repliesFull p = true := by simpa [State.repliesFull, State.port_goodFrame] using hf
  simp [State.request, ht, this]

/-- A request accepted by its owning block. -/
theorem Ready.handle {s : State} {p : PortNo} (h : Ready s p) {kind : Nat} (tag : Nat) (act : State → Verdict)
    (hk : knownKind kind = true) {t : State} {d : ReplyData} (ha : act (s.goodFrame p) = .accept t d) :
    s.handle p kind tag true act = t.answered p kind tag (.accepted d) := by
  simp [State.handle, h.request tag _ hk, ha, Verdict.settle]

/-- A request refused by its owning block leaves the state that the good frame made. -/
theorem Ready.handle_refused {s : State} {p : PortNo} (h : Ready s p) {kind : Nat} (tag : Nat) (act : State → Verdict)
    (hk : knownKind kind = true) {c : RefusalCode} (ha : act (s.goodFrame p) = .refuse c) :
    s.handle p kind tag true act = (s.goodFrame p).answered p kind tag (.refused c) := by
  simp [State.handle, h.request tag _ hk, ha, Verdict.settle]

/-- What a request can come to, whatever the port's state: the rule by which a law of the state is kept through it. -/
theorem State.request_keeps {P : State → Prop} (s : State) (p : PortNo) (kind tag : Nat) (form : Bool)
    (act : State → State × Answer) (hs : P s) (hg : ∀ t, P t → P (t.goodFrame p))
    (hr : ∀ t r, P t → t.repliesFull p = false → P (t.reply p r))
    (ha : ∀ t, P t → t.repliesFull p = false → (t.port p).state.takes kind = true →
      P (act t).1 ∧ (act t).1.repliesFull p = false) :
    P (s.request p kind tag form act) := by
  unfold State.request
  split
  · dsimp only
    split
    · exact hg _ hs
    · rename_i hf
      have hf' : (s.goodFrame p).repliesFull p = false := by simpa using hf
      split
      · exact hr _ _ (hg _ hs) hf'
      · rename_i hn
        have ht : ((s.goodFrame p).port p).state.takes kind = true := by
          by_contra hc
          simp only [State.portRefusal] at hn
          split at hn <;> simp_all
        obtain ⟨h1, h2⟩ := ha _ (hg _ hs) hf' ht
        exact hr _ _ h1 h2
  · exact hs

/-! ### Lock-covered requests (R127) -/

@[simp] theorem State.renewed_frame (s : State) (p : PortNo) :
    (s.renewed p).filters = s.filters ∧ (s.renewed p).queue = s.queue ∧ (s.renewed p).normal = s.normal ∧
    (s.renewed p).storm = s.storm ∧ (s.renewed p).active = s.active ∧ (s.renewed p).plant = s.plant ∧
    (s.renewed p).switch = s.switch ∧ (s.renewed p).volume = s.volume ∧ (s.renewed p).inputs = s.inputs ∧
    (s.renewed p).clock = s.clock ∧ (s.renewed p).header = s.header ∧ (s.renewed p).image = s.image ∧
    (s.renewed p).storing = s.storing ∧ (s.renewed p).lock = some ⟨p, s.clock⟩ := by
  simp [State.renewed]

/-- The holder's request is tested with the lock time renewed, whether it is then accepted or refused. -/
theorem Ready.covered {s : State} {p : PortNo} (h : Ready s p) {kind : Nat} (tag : Nat) (act : State → Verdict)
    (hk : knownKind kind = true) (hl : s.holdsLock p = true) :
    s.request p kind tag true (State.lockCovered p act) =
      ((act (s.renewed p)).settle (s.renewed p)).1.answered p kind tag ((act (s.renewed p)).settle (s.renewed p)).2 := by
  rw [h.request tag _ hk]
  simp only [State.holdsLock] at hl
  cases hs : s.lock with
  | none => simp [hs] at hl
  | some l =>
    simp [hs] at hl
    simp [State.lockCovered, hs, hl, State.renewed]

/-- Any other port's is refused NO_LOCK where the lock is free, LOCKED where it is held. -/
theorem Ready.covered_not {s : State} {p : PortNo} (h : Ready s p) {kind : Nat} (tag : Nat) (act : State → Verdict)
    (hk : knownKind kind = true) (hl : s.holdsLock p = false) :
    s.request p kind tag true (State.lockCovered p act) =
      (s.goodFrame p).answered p kind tag (.refused (if s.lock = none then .noLock else .locked)) := by
  rw [h.request tag _ hk]
  simp only [State.holdsLock] at hl
  cases hs : s.lock with
  | none => simp [State.lockCovered, hs]
  | some l =>
    simp [hs] at hl
    simp [State.lockCovered, hs, hl]

/-! ### Events -/

/-- An event on a settled state is that event alone. -/
theorem Settled.event {s : State} (h : Settled s) (e : State → State) : s.event e = e s := by
  simp [State.event, h.running, h.atOnce]

/-- A law that what follows at once keeps, and an event keeps, is kept by the event of a command. -/
theorem State.event_keeps {P : State → Prop} (s : State) (e : State → State) (hs : P s) (ha : ∀ t, P t → P t.atOnce)
    (he : ∀ t, P t → P (e t)) : P (s.event e) := by
  unfold State.event
  split
  · exact hs
  · exact he _ (ha _ hs)

end Sys2Proof.Machine
end

