-- ==== Sys2Proof/Laws/PerInstr.lean ====
section
/-! SUPPORT. The per-command family RequestShape: what the telegram of each command is, as syntax. -/

namespace Sys2Proof.Laws.RequestShape

/-- A command that a station sends has a telegram of one of the 27 known kinds, with the command's own port, and where the
command is well formed its tag fits a byte and its body the 60 bytes of a frame (spec/12 sections 12.1 and 12.2). -/
def Statement (i : Instr) : Prop :=
  match encodeRequest i with
  | some (_, t) =>
      knownKind t.kind = true ∧ (i.wf = true → t.tag < 256 ∧ t.body.length ≤ 60)
  | none => True

/-- The shape of a telegram whose body has a fixed length. -/
theorem of_short {i : Instr} {p : PortNo} {t : Telegram} (he : encodeRequest i = some (p, t))
    (hk : knownKind t.kind = true) (hb : t.body.length ≤ 60) (ht : i.wf = true → fitsByte t.tag = true) : Statement i := by
  simp only [Statement, he]
  exact ⟨hk, fun h => ⟨by simpa [fitsByte] using ht h, hb⟩⟩

/-- A command that no station sends has no telegram. -/
theorem of_none {i : Instr} (he : encodeRequest i = none) : Statement i := by simp only [Statement, he]

theorem reset (rate0 rate1 : Bool) : Statement (.reset rate0 rate1) := of_none rfl

theorem imageLoadComplete (intact : Bool) : Statement (.imageLoadComplete intact) := of_none rfl

theorem attach (p : PortNo) (tag revision : Nat) (name : List Nat) : Statement (.attach p tag revision name) := by
  refine ⟨rfl, fun h => ?_⟩
  simp only [Instr.wf, Bool.and_eq_true, decide_eq_true_eq] at h
  simp only [List.length_cons, List.length_map]
  exact ⟨by simpa [fitsByte] using h.1.1.1, by omega⟩

theorem detach (p : PortNo) (tag : Nat) : Statement (.detach p tag) :=
  of_short rfl rfl (Nat.le_of_ble_eq_true rfl) fun h => by simp_all [Instr.wf]

theorem readFilter (p : PortNo) (tag filter : Nat) : Statement (.readFilter p tag filter) :=
  of_short rfl rfl (Nat.le_of_ble_eq_true rfl) fun h => by simp_all [Instr.wf]

theorem readQueue (p : PortNo) (tag start : Nat) : Statement (.readQueue p tag start) :=
  of_short rfl rfl (Nat.le_of_ble_eq_true rfl) fun h => by simp_all [Instr.wf]

theorem readHeader (p : PortNo) (tag : Nat) : Statement (.readHeader p tag) :=
  of_short rfl rfl (Nat.le_of_ble_eq_true rfl) fun h => by simp_all [Instr.wf]

theorem readBasin (p : PortNo) (tag : Nat) : Statement (.readBasin p tag) :=
  of_short rfl rfl (Nat.le_of_ble_eq_true rfl) fun h => by simp_all [Instr.wf]

theorem readPolicy (p : PortNo) (tag bank item : Nat) : Statement (.readPolicy p tag bank item) :=
  of_short rfl rfl (Nat.le_of_ble_eq_true rfl) fun h => by simp_all [Instr.wf]

theorem readRecipe (p : PortNo) (tag bank letter step : Nat) : Statement (.readRecipe p tag bank letter step) :=
  of_short rfl rfl (Nat.le_of_ble_eq_true rfl) fun h => by simp_all [Instr.wf]

theorem readPlant (p : PortNo) (tag setting input : Nat) : Statement (.readPlant p tag setting input) :=
  of_short rfl rfl (Nat.le_of_ble_eq_true rfl) fun h => by simp_all [Instr.wf]

theorem readAssign (p : PortNo) (tag filter : Nat) : Statement (.readAssign p tag filter) :=
  of_short rfl rfl (Nat.le_of_ble_eq_true rfl) fun h => by simp_all [Instr.wf]

theorem readHistory (p : PortNo) (tag age : Nat) : Statement (.readHistory p tag age) :=
  of_short rfl rfl (Nat.le_of_ble_eq_true rfl) fun h => by simp_all [Instr.wf]

theorem readPorts (p : PortNo) (tag named : Nat) : Statement (.readPorts p tag named) :=
  of_short rfl rfl (Nat.le_of_ble_eq_true rfl) fun h => by simp_all [Instr.wf]

theorem readClock (p : PortNo) (tag : Nat) : Statement (.readClock p tag) :=
  of_short rfl rfl (Nat.le_of_ble_eq_true rfl) fun h => by simp_all [Instr.wf]

theorem attention (p : PortNo) (tag : Nat) (mask : Option Nat) : Statement (.attention p tag mask) := by
  cases mask with
  | none => exact of_short rfl rfl (Nat.le_of_ble_eq_true rfl) fun h => by simp_all [Instr.wf]
  | some m => exact of_short rfl rfl (Nat.le_of_ble_eq_true rfl) fun h => by simp_all [Instr.wf]

theorem length_entries (entries : List ConditionEntry) : (entries.flatMap encodeEntry).length = 5 * entries.length := by
  induction entries with
  | nil => rfl
  | cons e es ih => simp [encodeEntry, le16, ih]; omega

theorem condition (p : PortNo) (tag : Nat) (entries : List ConditionEntry) : Statement (.condition p tag entries) := by
  refine ⟨rfl, fun h => ?_⟩
  simp only [Instr.wf, Bool.and_eq_true, decide_eq_true_eq] at h
  simp only [List.length_cons, length_entries]
  exact ⟨by simpa [fitsByte] using h.1.1, by omega⟩

theorem washRequest (p : PortNo) (tag filter cls : Nat) : Statement (.washRequest p tag filter cls) :=
  of_short rfl rfl (Nat.le_of_ble_eq_true rfl) fun h => by simp_all [Instr.wf]

theorem withdraw (p : PortNo) (tag filter : Nat) : Statement (.withdraw p tag filter) :=
  of_short rfl rfl (Nat.le_of_ble_eq_true rfl) fun h => by simp_all [Instr.wf]

theorem holdOut (p : PortNo) (tag filter forced : Nat) : Statement (.holdOut p tag filter forced) :=
  of_short rfl rfl (Nat.le_of_ble_eq_true rfl) fun h => by simp_all [Instr.wf]

theorem release (p : PortNo) (tag filter : Nat) : Statement (.release p tag filter) :=
  of_short rfl rfl (Nat.le_of_ble_eq_true rfl) fun h => by simp_all [Instr.wf]

theorem returnFilter (p : PortNo) (tag filter : Nat) : Statement (.returnFilter p tag filter) :=
  of_short rfl rfl (Nat.le_of_ble_eq_true rfl) fun h => by simp_all [Instr.wf]

theorem reconcile (p : PortNo) (tag filter declared hours : Nat) : Statement (.reconcile p tag filter declared hours) :=
  of_short rfl rfl (Nat.le_of_ble_eq_true rfl) fun h => by simp_all [Instr.wf]

theorem isolated (p : PortNo) (tag filter : Nat) : Statement (.isolated p tag filter) :=
  of_short rfl rfl (Nat.le_of_ble_eq_true rfl) fun h => by simp_all [Instr.wf]

theorem decline (p : PortNo) (tag filter : Nat) : Statement (.decline p tag filter) :=
  of_short rfl rfl (Nat.le_of_ble_eq_true rfl) fun h => by simp_all [Instr.wf]

theorem proceed (p : PortNo) (tag filter step : Nat) : Statement (.proceed p tag filter step) :=
  of_short rfl rfl (Nat.le_of_ble_eq_true rfl) fun h => by simp_all [Instr.wf]

theorem abandon (p : PortNo) (tag filter : Nat) : Statement (.abandon p tag filter) :=
  of_short rfl rfl (Nat.le_of_ble_eq_true rfl) fun h => by simp_all [Instr.wf]

theorem holdHeader (p : PortNo) (tag : Nat) : Statement (.holdHeader p tag) :=
  of_short rfl rfl (Nat.le_of_ble_eq_true rfl) fun h => by simp_all [Instr.wf]

theorem releaseHold (p : PortNo) (tag : Nat) : Statement (.releaseHold p tag) :=
  of_short rfl rfl (Nat.le_of_ble_eq_true rfl) fun h => by simp_all [Instr.wf]

theorem basinDeclare (p : PortNo) (tag litres : Nat) : Statement (.basinDeclare p tag litres) :=
  of_short rfl rfl (Nat.le_of_ble_eq_true rfl) fun h => by simp_all [Instr.wf]

theorem policyLock (p : PortNo) (tag : Nat) : Statement (.policyLock p tag) :=
  of_short rfl rfl (Nat.le_of_ble_eq_true rfl) fun h => by simp_all [Instr.wf]

theorem policyUnlock (p : PortNo) (tag : Nat) : Statement (.policyUnlock p tag) :=
  of_short rfl rfl (Nat.le_of_ble_eq_true rfl) fun h => by simp_all [Instr.wf]

theorem policyWrite (p : PortNo) (tag bank item value : Nat) : Statement (.policyWrite p tag bank item value) :=
  of_short rfl rfl (Nat.le_of_ble_eq_true rfl) fun h => by simp_all [Instr.wf]

theorem recipeWrite (p : PortNo) (tag bank letter index : Nat) (record : StepRecord) : Statement (.recipeWrite p tag bank letter index record) :=
  of_short rfl rfl (Nat.le_of_ble_eq_true rfl) fun h => by simp_all [Instr.wf]

theorem recipeTruncate (p : PortNo) (tag bank letter count : Nat) : Statement (.recipeTruncate p tag bank letter count) :=
  of_short rfl rfl (Nat.le_of_ble_eq_true rfl) fun h => by simp_all [Instr.wf]

theorem assign (p : PortNo) (tag filter present owner letter : Nat) : Statement (.assign p tag filter present owner letter) :=
  of_short rfl rfl (Nat.le_of_ble_eq_true rfl) fun h => by simp_all [Instr.wf]

theorem plantWrite (p : PortNo) (tag setting input value : Nat) : Statement (.plantWrite p tag setting input value) :=
  of_short rfl rfl (Nat.le_of_ble_eq_true rfl) fun h => by simp_all [Instr.wf]

theorem postureSwitch (p : PortNo) (tag target : Nat) : Statement (.postureSwitch p tag target) :=
  of_short rfl rfl (Nat.le_of_ble_eq_true rfl) fun h => by simp_all [Instr.wf]

theorem store (p : PortNo) (tag : Nat) : Statement (.store p tag) :=
  of_short rfl rfl (Nat.le_of_ble_eq_true rfl) fun h => by simp_all [Instr.wf]

theorem storeComplete (agrees : Bool) : Statement (.storeComplete agrees) := of_none rfl

theorem frameDiscard (p : PortNo) (cause : DiscardCause) : Statement (.frameDiscard p cause) := of_none rfl

theorem characterGapTimeout (p : PortNo) : Statement (.characterGapTimeout p) := of_none rfl

theorem resyncIdle (p : PortNo) : Statement (.resyncIdle p) := of_none rfl

theorem lineBreak (p : PortNo) : Statement (.lineBreak p) := of_none rfl

theorem requestDiscardedQueueFull (p : PortNo) : Statement (.requestDiscardedQueueFull p) := of_none rfl

theorem replySent (p : PortNo) : Statement (.replySent p) := of_none rfl

theorem quietExpiry (p : PortNo) : Statement (.quietExpiry p) := of_none rfl

theorem lostExpiry (p : PortNo) : Statement (.lostExpiry p) := of_none rfl

theorem runTimeExpiry (f : FilterNo) : Statement (.runTimeExpiry f) := of_none rfl

theorem ripeningExpiry (f : FilterNo) : Statement (.ripeningExpiry f) := of_none rfl

theorem selection : Statement .selection := of_none rfl

theorem holdLimitExpiry : Statement .holdLimitExpiry := of_none rfl

theorem callWindowExpiry : Statement .callWindowExpiry := of_none rfl

theorem gateExpiry : Statement .gateExpiry := of_none rfl

theorem markReached : Statement .markReached := of_none rfl

theorem stepEnd : Statement .stepEnd := of_none rfl

theorem tripHoldLimitExpiry : Statement .tripHoldLimitExpiry := of_none rfl

theorem gapExpiry : Statement .gapExpiry := of_none rfl

theorem startWindowExpiry (pair : Pair) : Statement (.startWindowExpiry pair) := of_none rfl

theorem stopWindowExpiry (pair : Pair) : Statement (.stopWindowExpiry pair) := of_none rfl

theorem inputRawChange (input : Input) (high : Bool) : Statement (.inputRawChange input high) := of_none rfl

theorem inputQualifyExpiry (input : Input) : Statement (.inputQualifyExpiry input) := of_none rfl

theorem basinAccrual : Statement .basinAccrual := of_none rfl

theorem lockExpiry : Statement .lockExpiry := of_none rfl

theorem switchTake : Statement .switchTake := of_none rfl

theorem startByteReceived (p : PortNo) (byte : Byte) : Statement (.startByteReceived p byte) := of_none rfl

theorem unknownRequestKind (p : PortNo) (tag kind view : Nat) : Statement (.unknownRequestKind p tag kind view) := of_none rfl

end Sys2Proof.Laws.RequestShape
end

