-- ==== Sys2Proof/Tests/Slice0.lean ====
section
/-! SUPPORT. The model's own tests: ill-formed commands, the frame and its CRC, single steps, and for every obligation with
hypotheses a state and operands that meet them all together (test_hyp_ with the name of the obligation or of its group). -/

namespace Sys2Proof.Tests

open Sys2Proof.Machine

/-! ## Ill-formed commands -/

theorem test_wf_detach : (Instr.detach 0 255).wf = true ∧ (Instr.detach 0 256).wf = false := by decide

theorem test_wf_readFilter : (Instr.readFilter 0 255 255).wf = true ∧ (Instr.readFilter 0 256 255).wf = false ∧
    (Instr.readFilter 0 255 256).wf = false := by decide

theorem test_wf_readQueue : (Instr.readQueue 0 255 255).wf = true ∧ (Instr.readQueue 0 256 255).wf = false ∧
    (Instr.readQueue 0 255 256).wf = false := by decide

theorem test_wf_readHeader : (Instr.readHeader 0 255).wf = true ∧ (Instr.readHeader 0 256).wf = false := by decide

theorem test_wf_readBasin : (Instr.readBasin 0 255).wf = true ∧ (Instr.readBasin 0 256).wf = false := by decide

theorem test_wf_readPolicy : (Instr.readPolicy 0 255 255 255).wf = true ∧
    (Instr.readPolicy 0 256 255 255).wf = false ∧ (Instr.readPolicy 0 255 256 255).wf = false ∧
    (Instr.readPolicy 0 255 255 256).wf = false := by decide

theorem test_wf_readRecipe : (Instr.readRecipe 0 255 255 255 255).wf = true ∧
    (Instr.readRecipe 0 256 255 255 255).wf = false ∧ (Instr.readRecipe 0 255 256 255 255).wf = false ∧
    (Instr.readRecipe 0 255 255 256 255).wf = false ∧ (Instr.readRecipe 0 255 255 255 256).wf = false := by decide

theorem test_wf_readPlant : (Instr.readPlant 0 255 255 255).wf = true ∧ (Instr.readPlant 0 256 255 255).wf = false ∧
    (Instr.readPlant 0 255 256 255).wf = false ∧ (Instr.readPlant 0 255 255 256).wf = false := by decide

theorem test_wf_readAssign : (Instr.readAssign 0 255 255).wf = true ∧ (Instr.readAssign 0 256 255).wf = false ∧
    (Instr.readAssign 0 255 256).wf = false := by decide

theorem test_wf_readHistory : (Instr.readHistory 0 255 255).wf = true ∧ (Instr.readHistory 0 256 255).wf = false ∧
    (Instr.readHistory 0 255 256).wf = false := by decide

theorem test_wf_readPorts : (Instr.readPorts 0 255 255).wf = true ∧ (Instr.readPorts 0 256 255).wf = false ∧
    (Instr.readPorts 0 255 256).wf = false := by decide

theorem test_wf_readClock : (Instr.readClock 0 255).wf = true ∧ (Instr.readClock 0 256).wf = false := by decide

theorem test_wf_washRequest : (Instr.washRequest 0 255 255 255).wf = true ∧
    (Instr.washRequest 0 256 255 255).wf = false ∧ (Instr.washRequest 0 255 256 255).wf = false ∧
    (Instr.washRequest 0 255 255 256).wf = false := by decide

theorem test_wf_withdraw : (Instr.withdraw 0 255 255).wf = true ∧ (Instr.withdraw 0 256 255).wf = false ∧
    (Instr.withdraw 0 255 256).wf = false := by decide

theorem test_wf_holdOut : (Instr.holdOut 0 255 255 255).wf = true ∧ (Instr.holdOut 0 256 255 255).wf = false ∧
    (Instr.holdOut 0 255 256 255).wf = false ∧ (Instr.holdOut 0 255 255 256).wf = false := by decide

theorem test_wf_release : (Instr.release 0 255 255).wf = true ∧ (Instr.release 0 256 255).wf = false ∧
    (Instr.release 0 255 256).wf = false := by decide

theorem test_wf_returnFilter : (Instr.returnFilter 0 255 255).wf = true ∧ (Instr.returnFilter 0 256 255).wf = false ∧
    (Instr.returnFilter 0 255 256).wf = false := by decide

theorem test_wf_reconcile : (Instr.reconcile 0 255 255 255 255).wf = true ∧
    (Instr.reconcile 0 256 255 255 255).wf = false ∧ (Instr.reconcile 0 255 256 255 255).wf = false ∧
    (Instr.reconcile 0 255 255 256 255).wf = false ∧ (Instr.reconcile 0 255 255 255 256).wf = false := by decide

theorem test_wf_isolated : (Instr.isolated 0 255 255).wf = true ∧ (Instr.isolated 0 256 255).wf = false ∧
    (Instr.isolated 0 255 256).wf = false := by decide

theorem test_wf_decline : (Instr.decline 0 255 255).wf = true ∧ (Instr.decline 0 256 255).wf = false ∧
    (Instr.decline 0 255 256).wf = false := by decide

theorem test_wf_proceed : (Instr.proceed 0 255 255 255).wf = true ∧ (Instr.proceed 0 256 255 255).wf = false ∧
    (Instr.proceed 0 255 256 255).wf = false ∧ (Instr.proceed 0 255 255 256).wf = false := by decide

theorem test_wf_abandon : (Instr.abandon 0 255 255).wf = true ∧ (Instr.abandon 0 256 255).wf = false ∧
    (Instr.abandon 0 255 256).wf = false := by decide

theorem test_wf_holdHeader : (Instr.holdHeader 0 255).wf = true ∧ (Instr.holdHeader 0 256).wf = false := by decide

theorem test_wf_releaseHold : (Instr.releaseHold 0 255).wf = true ∧ (Instr.releaseHold 0 256).wf = false := by decide

theorem test_wf_basinDeclare : (Instr.basinDeclare 0 255 4294967295).wf = true ∧
    (Instr.basinDeclare 0 256 4294967295).wf = false ∧ (Instr.basinDeclare 0 255 4294967296).wf = false := by decide

theorem test_wf_policyLock : (Instr.policyLock 0 255).wf = true ∧ (Instr.policyLock 0 256).wf = false := by decide

theorem test_wf_policyUnlock : (Instr.policyUnlock 0 255).wf = true ∧
    (Instr.policyUnlock 0 256).wf = false := by decide

theorem test_wf_policyWrite : (Instr.policyWrite 0 255 255 255 4294967295).wf = true ∧
    (Instr.policyWrite 0 256 255 255 4294967295).wf = false ∧
    (Instr.policyWrite 0 255 256 255 4294967295).wf = false ∧
    (Instr.policyWrite 0 255 255 256 4294967295).wf = false ∧
    (Instr.policyWrite 0 255 255 255 4294967296).wf = false := by decide

theorem test_wf_recipeTruncate : (Instr.recipeTruncate 0 255 255 255 255).wf = true ∧
    (Instr.recipeTruncate 0 256 255 255 255).wf = false ∧ (Instr.recipeTruncate 0 255 256 255 255).wf = false ∧
    (Instr.recipeTruncate 0 255 255 256 255).wf = false ∧
    (Instr.recipeTruncate 0 255 255 255 256).wf = false := by decide

theorem test_wf_assign : (Instr.assign 0 255 255 255 255 255).wf = true ∧
    (Instr.assign 0 256 255 255 255 255).wf = false ∧ (Instr.assign 0 255 256 255 255 255).wf = false ∧
    (Instr.assign 0 255 255 256 255 255).wf = false ∧ (Instr.assign 0 255 255 255 256 255).wf = false ∧
    (Instr.assign 0 255 255 255 255 256).wf = false := by decide

theorem test_wf_plantWrite : (Instr.plantWrite 0 255 255 255 4294967295).wf = true ∧
    (Instr.plantWrite 0 256 255 255 4294967295).wf = false ∧ (Instr.plantWrite 0 255 256 255 4294967295).wf = false ∧
    (Instr.plantWrite 0 255 255 256 4294967295).wf = false ∧
    (Instr.plantWrite 0 255 255 255 4294967296).wf = false := by decide

theorem test_wf_postureSwitch : (Instr.postureSwitch 0 255 255).wf = true ∧
    (Instr.postureSwitch 0 256 255).wf = false ∧ (Instr.postureSwitch 0 255 256).wf = false := by decide

theorem test_wf_store : (Instr.store 0 255).wf = true ∧ (Instr.store 0 256).wf = false := by decide

theorem test_wf_attach : (Instr.attach 0 255 255 (List.replicate 59 255)).wf = true ∧ (Instr.attach 0 256 1 [65]).wf = false ∧
    (Instr.attach 0 0 256 [65]).wf = false ∧ (Instr.attach 0 0 1 [256]).wf = false ∧
    (Instr.attach 0 0 1 (List.replicate 60 65)).wf = false := by decide

theorem test_wf_attention : (Instr.attention 0 255 none).wf = true ∧ (Instr.attention 0 0 (some 65535)).wf = true ∧
    (Instr.attention 0 256 none).wf = false ∧ (Instr.attention 0 0 (some 65536)).wf = false := by decide

theorem test_wf_condition : (Instr.condition 0 255 (List.replicate 11 ⟨255, 65535, 65535⟩)).wf = true ∧
    (Instr.condition 0 256 []).wf = false ∧ (Instr.condition 0 0 [⟨256, 0, 0⟩]).wf = false ∧
    (Instr.condition 0 0 [⟨1, 65536, 0⟩]).wf = false ∧ (Instr.condition 0 0 [⟨1, 0, 65536⟩]).wf = false ∧
    (Instr.condition 0 0 (List.replicate 12 ⟨1, 0, 0⟩)).wf = false := by decide

theorem test_wf_recipeWrite : (Instr.recipeWrite 0 255 255 255 255 ⟨65535, 65535, 255, 255, 255, 255, 65535, 255⟩).wf = true ∧
    (Instr.recipeWrite 0 256 0 0 0 ⟨0, 0, 0, 0, 0, 0, 0, 0⟩).wf = false ∧
    (Instr.recipeWrite 0 0 256 0 0 ⟨0, 0, 0, 0, 0, 0, 0, 0⟩).wf = false ∧
    (Instr.recipeWrite 0 0 0 256 0 ⟨0, 0, 0, 0, 0, 0, 0, 0⟩).wf = false ∧
    (Instr.recipeWrite 0 0 0 0 256 ⟨0, 0, 0, 0, 0, 0, 0, 0⟩).wf = false ∧ StepRecord.wf ⟨65536, 0, 0, 0, 0, 0, 0, 0⟩ = false ∧
    StepRecord.wf ⟨0, 65536, 0, 0, 0, 0, 0, 0⟩ = false ∧ StepRecord.wf ⟨0, 0, 256, 0, 0, 0, 0, 0⟩ = false ∧
    StepRecord.wf ⟨0, 0, 0, 256, 0, 0, 0, 0⟩ = false ∧ StepRecord.wf ⟨0, 0, 0, 0, 256, 0, 0, 0⟩ = false ∧
    StepRecord.wf ⟨0, 0, 0, 0, 0, 256, 0, 0⟩ = false ∧ StepRecord.wf ⟨0, 0, 0, 0, 0, 0, 65536, 0⟩ = false ∧
    StepRecord.wf ⟨0, 0, 0, 0, 0, 0, 0, 256⟩ = false := by decide

theorem test_wf_unknownRequestKind : (Instr.unknownRequestKind 0 255 255 0).wf = true ∧
    (Instr.unknownRequestKind 0 0 0 0).wf = true ∧ (Instr.unknownRequestKind 0 0 28 0).wf = true ∧
    (Instr.unknownRequestKind 0 0 3 12).wf = true ∧ (Instr.unknownRequestKind 0 256 28 0).wf = false ∧
    (Instr.unknownRequestKind 0 0 256 0).wf = false ∧ (Instr.unknownRequestKind 0 0 28 256).wf = false ∧
    (Instr.unknownRequestKind 0 0 27 0).wf = false ∧ (Instr.unknownRequestKind 0 0 3 11).wf = false := by decide

/-! ## Frames (spec/12 section 12.1) -/

/-- The check value of this CRC: the characters 1 to 9. -/
theorem test_crc_check_value : crc [0x31, 0x32, 0x33, 0x34, 0x35, 0x36, 0x37, 0x38, 0x39] = 0x29B1#16 := by decide +kernel

/-- The frame of WITHDRAW (5) with tag 7: start byte, length 3, kind 0x07, tag, filter, CRC low byte first. -/
theorem test_frame_of_withdraw : frame 0x07 0x07 [5] = [0xA5, 0x03, 0x07, 0x07, 0x05, 0xBE, 0x53] := by decide +kernel

theorem test_gather : gather [0x03, 0x07, 0x07, 0x05, 0xBE] = .more ∧
    gather [0x03, 0x07, 0x07, 0x05, 0xBE, 0x53] = .good 0x07 0x07 [5] ∧
    gather [0x03, 0x07, 0x07, 0x05, 0xBE, 0x54] = .badCrc ∧ gather [1] = .badLength ∧ gather [63] = .badLength ∧
    gather [62] = .more := by decide +kernel

theorem test_bodies : decodeRequest 1 0x12 9 [0x60, 0xEA, 0, 0] = .command (.basinDeclare 1 9 60000) ∧
    decodeRequest 1 0x05 9 [1, 5, 0x98, 0x08, 0x2C, 0x01] = .command (.condition 1 9 [⟨5, 2200, 300⟩]) ∧
    decodeRequest 1 0x05 9 [2, 5, 0x98, 0x08, 0x2C, 0x01] = .badForm ∧ decodeRequest 1 0x07 9 [] = .badForm ∧
    decodeRequest 1 0x1C 9 [] = .unknown ∧ decodeRequest 1 0x00 9 [] = .unknown ∧
    decodeRequest 1 0x03 9 [0x0C] = .command (.unknownRequestKind 1 9 3 12) := by decide

theorem test_no_table_word : decodeTableWord 8 0 = none ∧ decodeTableWord 0 7 = none := by decide

/-- A service start at the manual's own figure (R172) and at the ends of its field, and the first that the field does not hold. -/
theorem test_signed_field : leSigned32 (-107950) = [0x52, 0x5A, 0xFE, 0xFF] ∧ leSigned32 2147483647 = [0xFF, 0xFF, 0xFF, 0x7F] ∧
    leSigned32 (-2147483648) = [0, 0, 0, 0x80] ∧ fitsSigned32 2147483648 = false := by decide

/-! ## States for the tests -/

/-- A port ATTACHED, hunting, heard at 1 000. -/
def heard : Port := { Port.start with state := .attached, name := some [65], receiver := .hunting, lastGood := 1000 }

/-- The running part at 1 000, header IDLE, every port attached, no filter present. -/
def bare : State :=
  { State.reset with phase := .running, clock := 1000, header := .idle, ports := ByPort.const heard }

/-- A filter of port 1 washed with recipe A. -/
def ofPort1 (v : Service) : Filter := ⟨1, .a, v, none, 0, 0, none⟩

def promptDue : Due := ⟨⟨false, false, false, some .prompt⟩, .prompt, 900⟩
def routineDue : Due := ⟨⟨false, false, true, none⟩, .routine, 900⟩

/-- Filters 1 to 5 of port 1: IN_SERVICE, DUE, HELD_OUT, RIPENING, UNKNOWN. -/
def calm : State :=
  { ((((bare.setFilter 0 (some (ofPort1 (.inService 0)))).setFilter 1 (some (ofPort1 (.due promptDue 0)))).setFilter 2
      (some (ofPort1 (.heldOut .station)))).setFilter 3 (some (ofPort1 (.ripening 500)))).setFilter 4
      (some (ofPort1 .unknown)) with queue := [1] }

/-- The same when the run time of filters 1 and 2 reaches 72 h. -/
def late : State := { calm with clock := 259200 }

/-- The lock held by port 1. -/
def locked : State := { calm with lock := some ⟨1, 500⟩ }

/-- A gated step with a mark, and an ungated one that a trip aborts. -/
def markStep : Step := ⟨60, 20, .onAtMark, .off, .on, .off, 100, true, .hold⟩
def plainStep : Step := ⟨10, 10, .off, .on, .off, .on, 0, false, .abort⟩

def wash : Wash := ⟨0, 1, .normal, .a, [markStep, plainStep], 0, 100, false, 0, none, none⟩

def washingWith (h : Header) : State :=
  { calm.setFilter 0 (some (ofPort1 (.washing promptDue 0))) with header := h }

def called : State := { calm.setFilter 0 (some (ofPort1 (.called promptDue 0))) with header := .calling wash }
def gated : State := washingWith (.gated wash ⟨200, 1, 0, false⟩ 880)
def stepping : State := { washingWith (.stepping wash ⟨200, 1, 19, true⟩) with outputs := markStep.pattern 19 }
def ending : State := washingWith (.stepping wash ⟨200, 1, 59, true⟩)
def lastEnding : State := washingWith (.stepping wash ⟨200, 2, 9, true⟩)
def holding : State := washingWith (.holding wash ⟨200, 1, 19, false⟩ 820)
def aborting : State := washingWith (.aborting wash none .abandoned)

/-- A bank under which filter 2 of `calm` may be called: floor 1, recipe A of the two steps. -/
def ready : State := { calm with normal := { Bank.default with floor := 1, recipeA := [markStep, plainStep] }, volume := 396000 }

/-- `ready` under a hold of port 1. -/
def held : State := { ready with holder := some 1, hold := some ⟨1, 900⟩ }

/-- A settled state, checked by evaluation. -/
theorem settled_of {s : State} (h : s.phase = .running ∧ s.atOnce = s) : Settled s := ⟨h.1, h.2⟩

/-- A ready port, checked by evaluation. -/
theorem ready_of {s : State} {p : PortNo} (h : (s.phase = .running ∧ s.atOnce = s) ∧ (s.port p).state.isAttached = true ∧
    (s.port p).receiver ≠ .resync ∧ (s.port p).replies.length < replyLimit) : Ready s p :=
  ⟨settled_of h.1, h.2.1, h.2.2.1, h.2.2.2⟩

theorem calm_ready : Ready calm 1 := ready_of (by decide)
theorem late_ready : Ready late 1 := ready_of (by decide)
theorem locked_ready : Ready locked 1 := ready_of (by decide)
theorem called_ready : Ready called 1 := ready_of (by decide)
theorem gated_ready : Ready gated 1 := ready_of (by decide)

/-! ## Single steps -/

/-- The load with an invalid image ends OFFLINE under the defaults, the basin full. -/
theorem test_load_of_defaults : (State.reset.completeLoad true).header = .offline ∧
    (State.reset.completeLoad true).volume = 400000 ∧ (State.reset.completeLoad true).phase = .running := by decide +kernel

/-- From reset, five idle steps end the load. -/
theorem test_idle_load : (State.reset.idle.idle.idle.idle.idle).phase = .running ∧
    (State.reset.idle.idle.idle.idle).phase = .loading 4 := by decide +kernel

/-- ATTACH at a port fresh from reset once its line has idled. -/
theorem test_attach_reply : ((evAttach 2 5 1 [65] (evResyncIdle 2 (State.reset.completeLoad true))).port 2).replies =
    [⟨1, 5, .accepted (.attach 2)⟩] := by decide +kernel

/-- The last character of a WITHDRAW frame withdraws filter 2 and is answered. -/
theorem test_last_character :
    (evStartByteReceived 1 0x23 (calm.setReceiver 1 (.framing [3, 7, 7, 2, 0x59]))).filter 1 =
      some (ofPort1 (.inService 0)) := by decide +kernel

/-- The seconds of an ON_AT_MARK step: OFF up to the mark, ON from it; its planned volume is 40 s at 100 l/s. -/
theorem test_pattern : (markStep.pattern 19).pump = .off ∧ (markStep.pattern 20).pump = .on ∧
    plannedVolume [markStep, plainStep] = 4000 ∧ markStep.interlocked = true ∧ plainStep.interlocked = true := by decide

/-- A step record whose pump may run without its wash valve is refused by the interlock; RELEASED is no pump mode. -/
theorem test_step_records : (stepOf ⟨60, 20, 1, 0, 2, 0, 100, 0⟩).map Step.interlocked = some false ∧
    (stepOf ⟨60, 0, 1, 0, 2, 0, 100, 0⟩).map Step.interlocked = some true ∧ stepOf ⟨60, 20, 4, 0, 1, 0, 100, 0⟩ = none ∧
    stepOf ⟨9, 0, 0, 0, 0, 0, 0, 0⟩ = none ∧ stepOf ⟨1800, 1800, 3, 0, 1, 4, 2000, 3⟩ =
      some ⟨1800, 1800, .offAtMark, .off, .on, .released, 2000, true, .abort⟩ := by decide

/-- The net of inflow and drain is limited once: a full basin with 300 in and 30 out stays full (R113). -/
theorem test_accrual_at_capacity :
    ({ calm with volume := 400000, accrual := some ⟨300, 30, false, false⟩ }.takeAccrual).volume = 400000 ∧
    ({ calm with volume := 20, accrual := some ⟨0, 30, false, false⟩ }.takeAccrual).volume = 0 := by decide +kernel

/-- DUE filters of R26: class, then queue time, then number. -/
theorem test_key_order : keyBefore ⟨Reasons.clear, .urgent, 9⟩ 5 ⟨Reasons.clear, .prompt, 1⟩ 1 = true ∧
    keyBefore ⟨Reasons.clear, .prompt, 8⟩ 5 ⟨Reasons.clear, .prompt, 9⟩ 1 = true ∧
    keyBefore ⟨Reasons.clear, .prompt, 9⟩ 1 ⟨Reasons.clear, .prompt, 9⟩ 5 = true := by decide

/-- A wash aborted before water is DUE in its old place, and after water held out (R84). -/
theorem test_abort_outcomes : (gated.abort .gateTimeout).queue = [0, 1] ∧ (gated.abort .gateTimeout).header = .settling 1000 false ∧
    (({ gated with header := .gated { wash with waterReached := true } ⟨200, 2, 0, false⟩ 880 }.abort .gateTimeout).filter 0).map
      Filter.service = some (.heldOut .washIncomplete) := by decide +kernel

/-! ## The hypotheses of the obligations are met -/

theorem called_settled : Settled called := called_ready.toSettled
theorem stepping_settled : Settled stepping := settled_of (by decide)

theorem test_hyp_StepRunsTheFrontCommand : ({ calm with pending := [.selection, .readClock 1 0] }).pending =
    .selection :: [.readClock 1 0] := rfl

theorem test_hyp_AnEmptyQueueLetsTimePass :
    (calm.pending = [] ∧ Settled calm ∧ calm.nextDue = none ∧ calm.hundredth < 99) ∧
    (Settled { calm with hundredth := 98 } ∧ { calm with hundredth := 98 }.nextDue = none) ∧
    (Settled { calm with accrual := some ⟨0, 0, false, false⟩ } ∧
      { calm with accrual := some ⟨0, 0, false, false⟩ }.nextDue = some evBasinAccrual) ∧
    (Settled { bare with hundredth := 99 } ∧ { bare with hundredth := 99 }.nextDue = none ∧ bare.header.current = none) ∧
    (Settled { holding with header := .stepping wash ⟨200, 1, 19, false⟩, hundredth := 99 } ∧
      { holding with header := .stepping wash ⟨200, 1, 19, false⟩, hundredth := 99 }.nextDue = none ∧
      wash.stepAt 1 = some markStep) :=
  ⟨⟨rfl, calm_ready.toSettled, rfl, by decide⟩, ⟨settled_of (by decide), rfl⟩, ⟨settled_of (by decide), rfl⟩,
    ⟨settled_of (by decide), rfl, rfl⟩, settled_of (by decide), rfl, rfl⟩

/-- The load before its last 10 ms and at them, and the last clock second with the one before it. -/
theorem test_hyp_AnEmptyQueueLetsTimePass_at_limits :
    (({ State.reset with phase := .loading 3 }).pending = [] ∧ ({ State.reset with phase := .loading 4 }).pending = []) ∧
    (∀ c, c = 4294967294 ∨ c = 4294967295 →
      Settled { bare with ports := ByPort.const Port.start, hundredth := 99, clock := c } ∧
      { bare with ports := ByPort.const Port.start, hundredth := 99, clock := c }.nextDue = none) ∧
    (Settled { holding with header := .stepping wash ⟨200, 1, 59, false⟩, hundredth := 99 } ∧
      { holding with header := .stepping wash ⟨200, 1, 59, false⟩, hundredth := 99 }.nextDue = none) := by
  refine ⟨⟨rfl, rfl⟩, fun c h => ?_, settled_of (by decide), rfl⟩
  rcases h with rfl | rfl <;> exact ⟨settled_of (by decide), rfl⟩

theorem test_hyp_CommandsFollowWhatComesAtOnce : calm.phase = .running ∧ ((∀ a b, Instr.selection ≠ .reset a b) ∧
    (∀ a, Instr.selection ≠ .imageLoadComplete a) ∧ Instr.selection ≠ .switchTake ∧ Instr.selection ≠ .gapExpiry) :=
  ⟨rfl, nofun, nofun, nofun, nofun⟩

theorem test_hyp_TheLoadSetsTheStartUpState : State.reset.phase = .loading 0 := rfl

theorem test_hyp_AttachSetsThePort : (Ready calm 1 ∧ attachForm 1 (List.replicate 16 126) = true) ∧
    (Settled { calm with ports := calm.ports.set 0 { Port.start with receiver := .hunting } } ∧
      attachForm 1 [32] = true ∧ replyLimit = 4) ∧
    Settled { calm with ports := calm.ports.set 0 { heard with state := .lost, replies := List.replicate 3 ⟨1, 0, .accepted .none⟩ } } :=
  ⟨⟨calm_ready, by decide⟩, ⟨settled_of (by decide), by decide, rfl⟩, settled_of (by decide)⟩

theorem test_hyp_DetachTakesTheStationOff : Settled locked ∧ (locked.port 1).state.isAttached = true ∧
    (locked.port 1).receiver ≠ .resync ∧ (locked.port 1).replies.length < replyLimit ∧
    (locked.setPortState 0 .lost).phase = .running ∧ ((locked.setPortState 0 .lost).port 0).state = .lost ∧
    Settled (locked.setPortState 0 .lost) :=
  ⟨locked_ready.toSettled, by decide, by decide, by decide, rfl, by decide, settled_of (by decide)⟩

theorem test_hyp_DetachTakesTheStationOff_with_a_wash : (Ready called 1 ∧ called.header = .calling wash ∧ wash.owner = 1 ∧
    called.filter wash.filter = some (ofPort1 (.called promptDue 0)) ∧ called.runTimeOver 0 = false) ∧
    (Ready gated 1 ∧ gated.header.washing = some wash) :=
  ⟨⟨called_ready, rfl, rfl, by decide, by decide⟩, gated_ready, rfl⟩

theorem test_hyp_SilenceMovesAPort : (Settled { calm with clock := 1005 } ∧ (calm.port 1).state = .attached ∧
    calm.plant.quietTime = 1005 - (calm.port 1).lastGood) ∧
    (Settled { calm.setPortState 1 .quiet with clock := 1030 } ∧
      calm.plant.lostTime = 1030 - ((calm.setPortState 1 .quiet).port 1).lastGood) :=
  ⟨⟨settled_of (by decide), by decide, by decide⟩, settled_of (by decide), by decide⟩

theorem test_hyp_LeavingDropsThePortsClaims : (called.port 1).state.isAttached = true ∧ called.header = .calling wash ∧
    wash.owner = 1 ∧ called.filter 0 = some (ofPort1 (.called promptDue 0)) ∧ called.runTimeOver 0 = false ∧
    stepping.header.washing = some wash ∧ (stepping.port 1).state.isAttached = true := by decide

theorem test_hyp_DamagedFramesAndLineBreaks :
    (∀ n, n ≤ 7 → Settled (calm.setPort 1 { heard with receiver := .framing [], badCount := n })) ∧
    Settled (calm.setPort 1 { heard with receiver := .resync }) ∧
    Settled (calm.setPort 1 { heard with state := .blocked, badCount := 8 }) :=
  ⟨fun n _ => ⟨rfl, rfl⟩, settled_of (by decide), settled_of (by decide)⟩

/-- The eighth discard at a washing filter's owner, and at a port that is not attached. -/
theorem test_hyp_DamagedFramesAndLineBreaks_at_the_eighth :
    (Settled (gated.setPort 1 { heard with receiver := .framing [], badCount := 7 }) ∧ gated.header.washing = some wash ∧
      wash.owner = 1) ∧
    (Settled (calm.setPort 0 { Port.start with receiver := .framing [], badCount := 7 }) ∧
      Port.start.state.isAttached = false) :=
  ⟨⟨settled_of (by decide), rfl, rfl⟩, settled_of (by decide), rfl⟩

theorem test_hyp_FullReplyQueueAndReplySent :
    Settled (calm.setPort 1 { heard with replies := List.replicate 4 ⟨1, 0, .accepted .none⟩ }) ∧
    (calm.setPort 1 { heard with replies := List.replicate 4 ⟨1, 0, .accepted .none⟩ }).takesFrame 1 = true ∧
    encodeRequest (.store 1 255) = some (1, ⟨27, 255, []⟩) ∧ unknownRequest 28 0 = true ∧
    (calm.setPort 1 { heard with replies := [⟨1, 0, .accepted .none⟩] }).phase = .running :=
  ⟨settled_of (by decide), by decide, rfl, rfl, rfl⟩

theorem test_hyp_CharactersMakeFrames : Settled calm ∧ (calm.port 1).receiver = .hunting ∧
    Ready (calm.setReceiver 1 (.framing [3, 7, 7, 2, 0x59])) 1 ∧ gather ([3, 7, 7, 2, 0x59] ++ [0x23]) = .good 7 7 [2] ∧
    decodeRequest 1 7 7 [2] = .command (.withdraw 1 7 2) ∧ gather ([3, 7, 7, 2] ++ [0x59]) = .more ∧
    gather ([] ++ [63]) = .badLength ∧ gather ([3, 7, 7, 2, 0x59] ++ [0x24]) = .badCrc ∧
    gather ([0x2, 0x1c, 0x7, 0x5] ++ [0x94]) = .good 0x1C 7 [] ∧
    gather ([0x2, 0x7, 0x7, 0x8c] ++ [0x4b]) = .good 7 7 [] ∧ decodeRequest 1 0x1C 7 [] = .unknown ∧ decodeRequest 1 7 7 [] = .badForm :=
  ⟨calm_ready.toSettled, by decide, ready_of (by decide), by decide +kernel, by decide, by decide, by decide,
    by decide +kernel, by decide +kernel, by decide +kernel, by decide, by decide⟩

/-- A good frame out of form at a full reply queue, at a DETACHED port and at a LOST one. -/
theorem test_hyp_CharactersMakeFrames_out_of_form :
    Settled (calm.setPort 1 { heard with
      receiver := .framing [0x2, 0x7, 0x7, 0x8c], replies := List.replicate 4 ⟨1, 0, .accepted .none⟩ }) ∧
    Settled (calm.setPort 0 { Port.start with receiver := .framing [0x2, 0x7, 0x7, 0x8c] }) ∧
    Settled (calm.setPort 0 { heard with state := .lost, receiver := .framing [0x2, 0x7, 0x7, 0x8c] }) ∧
    decodeRequest 1 1 7 [] = .badForm ∧ decodeRequest 1 2 7 [0] = .badForm :=
  ⟨settled_of (by decide), settled_of (by decide), settled_of (by decide), rfl, rfl⟩

/-- A port that hears, checked by evaluation. -/
theorem hears_of {s : State} {p : PortNo} (h : (s.phase = .running ∧ s.atOnce = s) ∧ s.takesFrame p = true ∧
    (s.port p).replies.length < replyLimit) : Hears s p := ⟨settled_of h.1, h.2.1, h.2.2⟩

theorem test_hyp_ThePortRefusesOfItself : Hears calm 1 ∧ encodeRequest (.withdraw 1 5 33) = some (1, ⟨7, 5, [33]⟩) ∧
    ownedFilter (.withdraw 1 5 33) = some 33 ∧ filterOf 33 = none ∧ filterOf 0 = none ∧ filterOf 32 = some 31 ∧
    calm.filter 31 = none ∧ Hears calm 2 ∧ filterOf 1 = some 0 ∧ calm.filter 0 = some (ofPort1 (.inService 0)) ∧
    (ofPort1 (.inService 0)).owner ≠ 2 ∧ (calm.port 2).state.isAttached = true :=
  ⟨calm_ready.hears, rfl, rfl, rfl, rfl, rfl, by decide, hears_of (by decide), rfl, by decide, by decide, by decide⟩

/-- A DETACHED port and a LOST one that hear, with the last kinds that they do not take; names and revisions out of range. -/
theorem test_hyp_ThePortRefusesOfItself_unattached :
    Hears (calm.setPort 0 { Port.start with receiver := .hunting }) 0 ∧ Port.start.state = .detached ∧
    encodeRequest (.detach 0 5) = some (0, ⟨2, 5, []⟩) ∧ Hears (calm.setPort 0 { heard with state := .lost }) 0 ∧
    encodeRequest (.readClock 0 5) = some (0, ⟨3, 5, [11]⟩) ∧
    16 < (List.replicate 17 65).length ∧ (∃ c ∈ [31], c < 32 ∨ 126 < c) ∧ ∃ c ∈ [127], c < 32 ∨ 126 < c :=
  ⟨hears_of (by decide), rfl, rfl, hears_of (by decide), rfl, by decide, by decide, by decide⟩

theorem test_hyp_TheAttentionLineShowsUnmaskedLatches :
    masked 2#10 .call = true ∧ (∀ d, d ≠ .call → ((heard.latches.post (.call 3)).notice d = heard.latches.notice d)) ∧
    (heard.post (.call 3)).latches.isPending .call = true ∧ masked 0#10 .call = false ∧
    ({ heard with mask := BitVec.allOnes 10 }).mask = BitVec.allOnes 10 := by
  refine ⟨by decide, fun d h => ?_, by decide, by decide, rfl⟩
  cases d <;> first | rfl | exact absurd rfl h

theorem test_hyp_AttentionFetchesTheHighestClass : (Ready calm 1 ∧ 1024 ≤ 1024 ∧ 1023 < 1024) ∧ Ready (calm.postTo 1 (.call 3)) 1 ∧
    (((calm.postTo 1 (.call 3)).port 1).latches.isPending .call = true ∧ masked 0#10 .call = false ∧
      ∀ d : NoticeClass, d.bit < NoticeClass.bit .call → ((calm.postTo 1 (.call 3)).port 1).latches.isPending d = true →
        masked 0#10 d = true) ∧ (∀ c, (calm.port 1).latches.isPending c = true → masked 0#10 c = true) := by
  refine ⟨⟨calm_ready, by decide⟩, ready_of (by decide), ⟨by decide, by decide, fun d h => ?_⟩, fun c => ?_⟩
  · cases d <;> first | decide | exact absurd h (by decide)
  · cases c <;> decide

theorem test_hyp_EveryRead : Ready { calm with history := [calm.historyRecord wash none .complete none] } 1 ∧
    filterOf 1 = some 0 ∧ filterOf 32 = some 31 ∧ filterOf 0 = none ∧ filterOf 33 = none ∧ bankOf 1 = some .storm ∧
    bankOf 2 = none ∧ itemOf 13 = some .ripeningLimit ∧ itemOf 14 = none ∧ letterOf 1 = some .b ∧ letterOf 2 = none ∧
    settingOf 6 8 = some (.qualify .storm) ∧ settingOf 6 9 = none ∧ settingOf 8 1 = none ∧ portOf 3 = some 3 :=
  ⟨ready_of (by decide), by decide⟩

theorem test_hyp_ConditionTakesItsEntriesInTurn : Ready calm 1 ∧ ∀ e ∈ List.replicate 8 (⟨1, 4000, 50000⟩ : ConditionEntry),
    ∃ f r, filterOf e.filter = some f ∧ calm.filter f = some r ∧ r.owner = 1 ∧ e.headLoss ≤ 4000 ∧ e.turbidity ≤ 50000 :=
  ⟨calm_ready, fun e h => ⟨0, ofPort1 (.inService 0), by rw [List.eq_of_mem_replicate h]; decide⟩⟩

/-- A request whose last entry is the first that fails, by each of the port's tests. -/
theorem test_hyp_ConditionTakesItsEntriesInTurn_refused : Ready calm 1 ∧
    8 < (List.replicate 9 (⟨1, 0, 0⟩ : ConditionEntry)).length ∧
    (List.replicate 7 (⟨1, 4000, 50000⟩ : ConditionEntry) ++ [(⟨33, 0, 0⟩ : ConditionEntry)]).length = 8 ∧
    (∀ f, filterOf 33 = some f → calm.filter f = none) ∧ (∀ f, filterOf 32 = some f → calm.filter f = none) ∧
    (4000 < 4001 ∧ 50000 < 50001) ∧ Ready (calm.setFilter 5 (some { ofPort1 (.inService 0) with owner := 2 })) 1 ∧
    filterOf 6 = some 5 ∧
    (calm.setFilter 5 (some { ofPort1 (.inService 0) with owner := 2 })).filter 5 =
      some { ofPort1 (.inService 0) with owner := 2 } :=
  ⟨calm_ready, by decide, by decide, by decide, by decide, by decide, ready_of (by decide), rfl, by decide⟩

theorem test_hyp_AnEntryAtALimitMakesTheFilterDue : calm.filter 0 = some (ofPort1 (.inService 0)) ∧
    calm.filter 1 = some (ofPort1 (.due promptDue 0)) ∧ calm.filter 4 = some (ofPort1 .unknown) ∧
    calm.activeBank.turbidityLimit = 300 ∧ calm.activeBank.headLossLimit = 2200 ∧ promptDue.cls = promptDue.reasons.cls ∧
    promptDue.cls ≠ .urgent ∧ routineDue.cls = routineDue.reasons.cls ∧ routineDue.cls = .routine ∧
    (calm.setFilter 1 (some (ofPort1 (.due routineDue 0)))).filter 1 = some (ofPort1 (.due routineDue 0)) := by decide

/-- Filters of each service state at a ready port, with the operands of WASH_REQUEST, WITHDRAW, HOLD_OUT, RELEASE, RETURN and
RECONCILE at the ends of their ranges. -/
theorem test_hyp_FilterRequests : Ready calm 1 ∧ calm.filter 0 = some (ofPort1 (.inService 0)) ∧
    calm.filter 1 = some (ofPort1 (.due promptDue 0)) ∧ calm.filter 2 = some (ofPort1 (.heldOut .station)) ∧
    calm.filter 3 = some (ofPort1 (.ripening 500)) ∧ calm.filter 4 = some (ofPort1 .unknown) ∧
    classOf 3 = some .urgent ∧ classOf 1 = some .routine ∧ classOf 0 = none ∧ classOf 4 = none ∧
    calm.runTimeOver 0 = false ∧ calm.inServiceCount = 2 ∧ calm.activeBank.floor = 4 ∧
    calm.runTimeOver ((calm.clock : Int) - (71 * 3600 : Nat)) = false ∧ declaredOf 4 = none :=
  ⟨calm_ready, by decide⟩

theorem test_hyp_FilterRequests_at_limits : Ready late 1 ∧ late.runTimeOver 0 = true ∧
    late.filter 1 = some (ofPort1 (.due promptDue 0)) ∧
    Ready ({ calm with normal := { Bank.default with floor := 1 }, storm := Bank.default, header := .runon }) 1 ∧
    ({ calm with normal := { Bank.default with floor := 1 } }).activeBank.floor + 1 = calm.inServiceCount ∧
    Ready (calm.setFilter 3 (some { ofPort1 (.ripening 500) with figures := some ⟨0, 149, 500⟩ })) 1 ∧
    Ready (calm.setFilter 3 (some { ofPort1 (.ripening 500) with figures := some ⟨0, 149, 499⟩ })) 1 :=
  ⟨late_ready, by decide, by decide, ready_of (by decide), by decide, ready_of (by decide), ready_of (by decide)⟩

/-- The states in which each of these requests is refused WRONG_STATE, and a declared run time that has reached the limit. -/
theorem test_hyp_FilterRequests_out_of_place : Ready called 1 ∧ called.filter 0 = some (ofPort1 (.called promptDue 0)) ∧
    Ready gated 1 ∧ gated.filter 0 = some (ofPort1 (.washing promptDue 0)) ∧ Ready calm 1 ∧
    (∀ start, (ofPort1 .unknown).service ≠ .inService start) ∧ (∀ d start, (ofPort1 .unknown).service ≠ .due d start) ∧
    (∀ reason, (ofPort1 .unknown).service ≠ .heldOut reason) ∧ (∀ start, (ofPort1 .unknown).service ≠ .ripening start) ∧
    (ofPort1 (.heldOut .station)).service ≠ .unknown ∧
    calm.runTimeOver ((calm.clock : Int) - (72 * 3600 : Nat)) = true ∧
    calm.runTimeOver ((calm.clock : Int) - (240 * 3600 : Nat)) = true :=
  ⟨called_ready, by decide, gated_ready, by decide, calm_ready, nofun, nofun, nofun, nofun, by decide, by decide, by decide⟩

theorem test_hyp_ADeclaredServiceStartMayBeNegative : ({ calm with clock := 50 }).clock = 50 ∧
    calm.activeBank.runTimeLimit = 72 ∧ (-864000 : Int) ≤ -864000 := by decide

theorem test_hyp_TheFilterTimersExpire : Settled late ∧ late.filter 0 = some (ofPort1 (.inService 0)) ∧
    late.runTimeOver 0 = true ∧ late.filter 1 = some (ofPort1 (.due promptDue 0)) ∧ promptDue.cls = promptDue.reasons.cls ∧
    promptDue.reasons.runtime = false ∧ Settled { calm with clock := 4100 } ∧
    calm.activeBank.ripeningLimit = 4100 - 500 :=
  ⟨late_ready.toSettled, by decide, by decide, by decide, by decide, by decide, settled_of (by decide), by decide⟩

theorem test_hyp_TenurePrefersTheHolder : calm.eligibleEntries = [1] ∧
    ({ calm with hold := some ⟨1, 0⟩ }).eligibleEntries = [1] ∧
    (calm.eligibleEntries.find? fun g => calm.ownerOf g == some 1 && calm.entryClass g == calm.entryClass 1) = some 1 ∧
    ({ calm with holder := some 1, budget := 1 }).eligibleEntries = [1] ∧
    calm.hold = none ∧ calm.holder = none ∧ (calm.ownerOf 1 = some 1) := by decide

theorem test_hyp_SelectionCallsTheCandidate : ready.phase = .running ∧ ready.guardHolds = true ∧ ready.hold = none ∧
    ready.candidate = some 1 ∧ ready.filter 1 = some (ofPort1 (.due promptDue 0)) ∧
    ready.activeBank.floor + 1 = ready.inServiceCount ∧
    plannedVolume (ready.activeBank.recipe .a) = ready.plant.capacity - ready.volume ∧
    ready.asserted .headerTrip = false ∧ ready.asserted .supplyLow = false ∧ ready.asserted .basinHigh = false := by decide

/-- The same under a hold of the candidate's port, and a hold that an URGENT rival breaks. -/
theorem test_hyp_SelectionCallsTheCandidate_under_a_hold : (held.phase = .running ∧ held.guardHolds = true ∧
    held.hold = some ⟨1, 900⟩ ∧ held.holder = some 1 ∧ held.rivalAt 1 .urgent = false ∧ held.candidate = some 1 ∧
    held.filter 1 = some (ofPort1 (.due promptDue 0)) ∧ held.activeBank.floor + 1 = held.inServiceCount ∧
    plannedVolume (held.activeBank.recipe .a) = held.plant.capacity - held.volume ∧ held.asserted .headerTrip = false ∧
    held.asserted .supplyLow = false ∧ held.asserted .basinHigh = false) ∧
    ({ calm.setFilter 1 (some (ofPort1 (.due ⟨Reasons.clear, .urgent, 900⟩ 0))) with hold := some ⟨2, 0⟩ }).guardHolds = true ∧
    ({ calm.setFilter 1 (some (ofPort1 (.due ⟨Reasons.clear, .urgent, 900⟩ 0))) with hold := some ⟨2, 0⟩ }).rivalAt 2 .urgent =
      true := by decide

theorem test_hyp_NoSelectionIsMade : (bare.phase = .running ∧ bare.switch = none ∧ bare.header = .idle ∧ bare.hold = none ∧
    bare.eligibleEntries = []) ∧ ({ calm with normal := { Bank.default with floor := 2 } }).inServiceCount =
      ({ calm with normal := { Bank.default with floor := 2 } }).activeBank.floor ∧
    ({ ready with volume := 396001 }).plant.capacity - ({ ready with volume := 396001 }).volume <
      plannedVolume (ready.activeBank.recipe .a) ∧
    (ready.setInput .basinHigh ⟨true, 10, true⟩).asserted .basinHigh = true ∧
    ({ calm.setFilter 1 (some (ofPort1 (.due ⟨Reasons.clear, .urgent, 900⟩ 0))) with hold := some ⟨2, 0⟩ }).guardHolds = true ∧
    ({ calm.setFilter 1 (some (ofPort1 (.due ⟨Reasons.clear, .urgent, 900⟩ 0))) with hold := some ⟨2, 0⟩ }).rivalAt 2 .urgent =
      true ∧ calm.inServiceCount ≤ calm.activeBank.floor := by decide

/-- The guard does not hold: a header not IDLE, a switch that the lock or a wash keeps pending. -/
theorem test_hyp_NoSelectionIsMade_without_the_guard : (called.phase = .running ∧ called.header ≠ .idle ∧ called.switch = none) ∧
    (({ locked with switch := some ⟨.storm, .line⟩ }).switch ≠ none ∧ ({ locked with switch := some ⟨.storm, .line⟩ }).lock ≠ none) ∧
    (({ called with switch := some ⟨.storm, .line⟩ }).switch ≠ none ∧
      ({ called with switch := some ⟨.storm, .line⟩ }).header.wash ≠ none) ∧
    (({ calm with header := .settling 900 false }).activeBank.headerGap ≠ 0) := by decide

theorem test_hyp_Holds : Ready { calm with holder := some 1 } 1 ∧
    Ready { calm with holder := some 1, hold := some ⟨1, 400⟩ } 1 ∧ Ready calm 1 ∧
    Settled { calm with hold := some ⟨1, 0⟩, clock := 1800 } ∧ calm.activeBank.holdLimit = 1800 - 0 ∧
    Settled { locked with clock := 1100 } ∧ 600 ≤ 1100 - 500 ∧ Settled { locked with clock := 1099 } :=
  ⟨ready_of (by decide), ready_of (by decide), calm_ready, settled_of (by decide), by decide, settled_of (by decide),
    by decide, settled_of (by decide)⟩

theorem test_hyp_ADriveChangeReachesItsPair : Lines.allOff.ofPair .pump = .off ∧ Lines.ofPair ⟨.on, .on, .on, .on⟩ .pump = .on ∧
    calm.outputs = Lines.allOff ∧ calm.pair .pump = .resting ∧
    ({ calm with blowerPair := .stopping ⟨990, 10⟩ }).pair .blower = .stopping ⟨990, 10⟩ ∧
    ({ calm with outputs := ⟨.on, .on, .on, .on⟩, pumpPair := .running, blowerPair := .starting ⟨990, 10⟩ }).pair .blower =
      .starting ⟨990, 10⟩ := by decide

theorem test_hyp_AStepDueWaitsOrBegins : markStep.gate = true ∧ plainStep.gate = false ∧ markStep.response = .hold ∧
    plainStep.response = .abort ∧ (calm.setInput .headerTrip ⟨true, 10, true⟩).asserted .headerTrip = true ∧
    (calm.setInput .supplyLow ⟨true, 10, true⟩).asserted .supplyLow = true ∧
    (calm.setInput .supplyLow ⟨true, 10, true⟩).asserted .headerTrip = false ∧
    (calm.setInput .basinHigh ⟨true, 10, true⟩).asserted .supplyLow = false := by decide

theorem test_hyp_IsolatedAndProceedBeginSteps : Ready called 1 ∧ filterOf 1 = some 0 ∧
    called.filter 0 = some (ofPort1 (.called promptDue 0)) ∧ called.header = .calling wash ∧ wash.filter = 0 ∧
    wash.stepAt 1 = some markStep ∧ Ready gated 1 ∧ gated.filter 0 = some (ofPort1 (.washing promptDue 0)) ∧
    gated.header = .gated wash ⟨200, 1, 0, false⟩ 880 ∧ (2 : Nat) ≠ 1 :=
  ⟨called_ready, by decide, by decide, rfl, rfl, rfl, gated_ready, by decide, rfl, by decide⟩

theorem test_hyp_WashRequestsOutOfPlaceAreRefused : Ready called 1 ∧ Ready gated 1 ∧
    (∀ d start, (ofPort1 (.washing promptDue 0)).service ≠ .called d start) ∧
    (∀ d start, (ofPort1 (.called promptDue 0)).service ≠ .washing d start) ∧
    (∀ w r since, stepping.header ≠ .gated w r since) ∧ Ready stepping 1 :=
  ⟨called_ready, gated_ready, nofun, nofun, nofun, ready_of (by decide)⟩

theorem test_hyp_ACallEndsWithoutAWash : Settled called ∧ Ready called 1 ∧
    called.filter 0 = some (ofPort1 (.called promptDue 0)) ∧ called.runTimeOver 0 = false ∧
    (called.bank wash.bank).callWindow = called.clock - wash.selectionTime ∧ promptDue.cls = promptDue.reasons.cls ∧
    Ready { called with clock := 259200 } 1 ∧ ({ called with clock := 259200 }).runTimeOver 0 = true ∧
    Settled (called.setFilter 0 (some { ofPort1 (.called promptDue 0) with lapses := 2 })) :=
  ⟨called_settled, called_ready, by decide, by decide, by decide, by decide, ready_of (by decide), by decide,
    settled_of (by decide)⟩

theorem test_hyp_WhatAbortsAWash : Ready gated 1 ∧ gated.header.washing = some wash ∧
    (gated.bank wash.bank).gateWindow = gated.clock - 880 ∧ Settled holding ∧
    holding.header = .holding wash ⟨200, 1, 19, false⟩ 820 ∧ (holding.bank wash.bank).tripHoldLimit = holding.clock - 820 ∧
    Settled { stepping with blowerPair := .starting ⟨990, 10⟩ } ∧ (10 : Nat) = stepping.clock - 990 ∧
    stepping.asserted .blowerRun = false ∧ gated.filter 0 = some (ofPort1 (.washing promptDue 0)) :=
  ⟨gated_ready, rfl, by decide, settled_of (by decide), rfl, by decide, settled_of (by decide), by decide, by decide, by decide⟩

theorem test_hyp_AnAbortDecidesTheOutcome : gated.header.live = some (wash, some ⟨200, 1, 0, false⟩) ∧
    called.header.live = some (wash, none) ∧ gated.accrual = none ∧ gated.anyOverrun = false ∧ wash.waterReached = false ∧
    gated.runTimeOver 0 = false ∧
    ({ gated with accrual := some ⟨100, 0, true, false⟩ }).accrual = some ⟨100, 0, true, false⟩ ∧
    ({ gated with header := .gated { wash with waterReached := true } ⟨200, 2, 0, false⟩ 880 }).header.live =
      some ({ wash with waterReached := true }, some ⟨200, 2, 0, false⟩) := by decide

/-- A pair OVERRUN at abort entry with its feedback asserted or not, the owner attached or not, and an inflow not charged yet. -/
theorem test_hyp_AnAbortDecidesTheOutcome_overrun : ({ gated with pumpPair := .overrun }).anyOverrun = true ∧
    ({ gated with pumpPair := .overrun }).header.live = some (wash, some ⟨200, 1, 0, false⟩) ∧
    ({ gated with pumpPair := .overrun }).asserted .pumpRun = false ∧
    ({ gated with pumpPair := .overrun }.setInput .pumpRun ⟨true, 9, true⟩).asserted .pumpRun = true ∧
    ({ gated with pumpPair := .overrun }.setPortState 1 .lost).header.live = some (wash, some ⟨200, 1, 0, false⟩) ∧
    (({ gated with pumpPair := .overrun }.setPortState 1 .lost).port wash.owner).state.isAttached = false ∧
    ({ gated with accrual := some ⟨100, 0, false, false⟩ }).header.live = some (wash, some ⟨200, 1, 0, false⟩) := by decide

theorem test_hyp_MarksAndStepEnds : Settled stepping ∧ stepping.header = .stepping wash ⟨200, 1, 19, true⟩ ∧
    wash.stepAt 1 = some markStep ∧ 19 + 1 = markStep.mark ∧ markStep.mark < markStep.duration ∧ Settled ending ∧
    ending.header = .stepping wash ⟨200, 1, 59, true⟩ ∧ markStep.duration = 59 + 1 ∧ wash.stepAt 2 = some plainStep ∧
    Settled lastEnding ∧ lastEnding.header = .stepping wash ⟨200, 2, 9, true⟩ ∧ plainStep.duration = 9 + 1 ∧
    wash.stepAt 3 = none ∧ lastEnding.accrual = none ∧
    Settled { lastEnding with accrual := some ⟨100, 0, false, false⟩ } :=
  ⟨stepping_settled, rfl, rfl, rfl, by decide, settled_of (by decide), rfl, rfl, rfl, settled_of (by decide), rfl, rfl, rfl, rfl,
    settled_of (by decide)⟩

theorem test_hyp_GapsAndStopWindows : Settled { calm with header := .settling 700 false } ∧ calm.switch = none ∧
    calm.activeBank.headerGap = calm.clock - 700 ∧
    Settled ({ stepping with pumpPair := .stopping ⟨990, 10⟩ }.setInput .pumpRun ⟨true, 9, true⟩) ∧
    Settled ({ aborting with pumpPair := .stopping ⟨990, 10⟩ }.setInput .pumpRun ⟨true, 9, true⟩) ∧
    Settled ({ calm with header := .settling 900 false, pumpPair := .stopping ⟨990, 10⟩ }.setInput .pumpRun ⟨true, 9, true⟩) ∧
    (10 : Nat) = calm.clock - 990 :=
  ⟨settled_of (by decide), rfl, by decide, settled_of (by decide), settled_of (by decide), settled_of (by decide), by decide⟩

theorem test_hyp_InputsAreQualified : Settled calm ∧ (calm.inputs.get .storm).high = false ∧ 0 < calm.plant.qualify.get .storm ∧
    Settled { calm with plant := { Plant.default with qualify := PerInput.const 0 } } ∧
    Settled (calm.setInput .storm ⟨true, 10, false⟩) ∧ calm.plant.qualify.get .storm = 10 * 10 ∧
    Settled (calm.setInput .storm ⟨true, 9, false⟩) ∧ 10 * 9 < calm.plant.qualify.get .storm :=
  ⟨calm_ready.toSettled, by decide, by decide, settled_of (by decide), settled_of (by decide), by decide,
    settled_of (by decide), by decide⟩

theorem test_hyp_LevelsAct : (calm.setInput .headerTrip ⟨true, 10, true⟩).asserted .headerTrip = true ∧
    calm.header.live = none ∧ (stepping.setInput .supplyLow ⟨true, 10, true⟩).asserted .supplyLow = true ∧
    stepping.header = .stepping wash ⟨200, 1, 19, true⟩ ∧ holding.asserted .supplyLow = false ∧
    holding.asserted .basinHigh = false ∧ holding.header = .holding wash ⟨200, 1, 19, false⟩ 820 ∧ calm.header.current = none ∧
    ({ calm with plant := { Plant.default with stormEnable := true } }).plant.stormEnable = true ∧
    (if calm.asserted .storm = true then BankId.storm else .normal) = calm.active ∧
    (if (calm.setInput .storm ⟨true, 10, true⟩).asserted .storm = true then BankId.storm else .normal) = calm.active.other := by
  decide

theorem test_hyp_FeedbackLevelsAct : ({ stepping with pumpPair := .starting ⟨990, 10⟩ }).pair .pump = .starting ⟨990, 10⟩ ∧
    (stepping.setInput .pumpRun ⟨true, 10, true⟩).asserted (feedbackOf .pump) = true ∧
    ({ stepping with pumpPair := .running }).pair .pump = .running ∧ stepping.asserted (feedbackOf .pump) = false ∧
    stepping.header.washing = some wash ∧ aborting.header = .aborting wash none .abandoned ∧
    ({ aborting with pumpPair := .stopping ⟨990, 10⟩ }).anyOverrun = false ∧
    ({ aborting with pumpPair := .stopping ⟨990, 10⟩ }.setPair .resting .pump).anyStopping = false ∧
    ({ calm with header := .runon, pumpPair := .overrun }).pair .pump = .overrun ∧ calm.asserted .blowerRun = false := by decide

/-- A pair STOPPING, OVERRUN and RESTING in the header states that wait, the other pair still STOPPING or not. -/
theorem test_hyp_FeedbackLevelsAct_at_rest :
    ({ aborting with pumpPair := .stopping ⟨990, 10⟩, blowerPair := .stopping ⟨990, 10⟩ }.setPair .resting .pump).anyStopping =
      true ∧
    ({ aborting with pumpPair := .stopping ⟨990, 10⟩, blowerPair := .stopping ⟨990, 10⟩ }.setPair .resting .pump).anyOverrun =
      false ∧
    ({ calm with header := .settling 700 true, pumpPair := .stopping ⟨990, 10⟩ }.setPair .resting .pump).anyStopping = false ∧
    ({ calm with header := .settling 700 false, pumpPair := .stopping ⟨990, 10⟩ }).pair .pump ≠ .running ∧
    (∀ x, ({ calm with header := .settling 700 true, pumpPair := .stopping ⟨990, 10⟩ }).pair .pump ≠ .starting x) ∧
    ({ calm with header := .runon }).pair .pump = .resting ∧
    (∀ x, ({ calm with header := .runon }).pair .pump ≠ .starting x) ∧
    ({ calm with header := .runon }.setInput .blowerRun ⟨true, 9, true⟩).asserted .blowerRun = true ∧
    (∀ w r cause, stepping.header ≠ .aborting w r cause) ∧ (∀ since taken, stepping.header ≠ .settling since taken) ∧
    stepping.header ≠ .runon ∧ stepping.pair .blower = .resting :=
  ⟨by decide, by decide, by decide, nofun, nofun, rfl, nofun, by decide, nofun, nofun, nofun, rfl⟩

theorem test_hyp_TheBasinAccount : Ready calm 1 ∧ calm.plant.capacity = 400000 ∧ calm.header.wash = none ∧ Ready called 1 ∧
    called.header.wash ≠ none ∧ Settled { calm with accrual := some ⟨0, 30, false, true⟩ } :=
  ⟨calm_ready, rfl, rfl, called_ready, by decide, settled_of (by decide)⟩

theorem test_hyp_ThePolicyLock : Ready calm 1 ∧ calm.lock = none ∧ calm.holdsLock 1 = false ∧ Ready locked 1 ∧
    locked.holdsLock 1 = true ∧ Ready locked 2 ∧ locked.lock ≠ none ∧ locked.holdsLock 2 = false ∧ filterOf 1 ≠ none :=
  ⟨calm_ready, rfl, rfl, locked_ready, by decide, ready_of (by decide), by decide, by decide, by decide⟩

theorem test_hyp_WritesOfTheStandbyBank : Ready locked 1 ∧ locked.holdsLock 1 = true ∧ bankOf 2 = none ∧
    bankOf 0 = some locked.active ∧ bankOf 1 = some locked.active.other ∧ locked.switch = none ∧
    Ready { locked with switch := some ⟨.storm, .line⟩ } 1 ∧ itemOf 5 = some .runTimeLimit ∧
    PolicyItem.range .runTimeLimit = (12, 240) ∧ letterOf 0 = some .a ∧
    (stepOf ⟨10, 0, 0, 0, 0, 0, 0, 0⟩).isSome = true ∧ ((locked.bank .storm).recipe .a).length = 0 ∧
    stepOf ⟨9, 0, 0, 0, 0, 0, 0, 0⟩ = none ∧ ((locked.bank .storm).recipe .a).length + 1 < 2 ∧ letterOf 2 = none :=
  ⟨locked_ready, by decide, rfl, rfl, rfl, rfl, ready_of (by decide), rfl, rfl, rfl, by decide, rfl, by decide,
    by decide, rfl⟩

theorem test_hyp_InterlockedStepsAndPlannedSeconds : markStep.mark ≤ markStep.duration ∧ plainStep.mark = plainStep.duration := by
  decide

theorem test_hyp_AssignChangesTheTable : Ready locked 1 ∧ locked.holdsLock 1 = true ∧ filterOf 32 = some 31 ∧ portOf 3 = some 3 ∧
    letterOf 1 = some .b ∧ locked.filter 31 = none ∧
    locked.breaksActive (locked.setFilter 31 (some (Filter.fresh ⟨3, .b⟩))) = false ∧
    locked.filter 0 = some (ofPort1 (.inService 0)) ∧ locked.filter 4 = some (ofPort1 .unknown) ∧
    locked.filter 1 = some (ofPort1 (.due promptDue 0)) ∧ locked.breaksActive (locked.setFilter 0 none) = false ∧
    ({ ready with lock := some ⟨1, 500⟩ }).breaksActive
      ({ ready with lock := some ⟨1, 500⟩ }.setFilter 0 (some { ofPort1 (.inService 0) with owner := 3, letter := .b })) = true ∧
    portOf 4 = none ∧ letterOf 2 = none :=
  ⟨locked_ready, by decide⟩

/-- A filter number that is none, and a valid active bank that a filter added or removed would make invalid. -/
theorem test_hyp_AssignChangesTheTable_refused : Ready calm 1 ∧ filterOf 33 = none ∧
    (({ ready with lock := some ⟨1, 500⟩ }).filter 31 = none ∧
      ({ ready with lock := some ⟨1, 500⟩ }).breaksActive
        ({ ready with lock := some ⟨1, 500⟩ }.setFilter 31 (some (Filter.fresh ⟨3, .b⟩))) = true) ∧
    (let s := { ready with lock := some ⟨1, 500⟩, normal := { ready.normal with floor := 5 } }
     s.holdsLock 1 = true ∧ s.filter 0 = some (ofPort1 (.inService 0)) ∧ s.breaksActive (s.setFilter 0 none) = true) :=
  ⟨calm_ready, by decide, by decide, by decide⟩

theorem test_hyp_PlantWriteAppliesTheSetting : Ready locked 1 ∧ locked.holdsLock 1 = true ∧ settingOf 0 0 = none ∧
    settingOf 8 0 = none ∧ settingOf 1 0 = some .capacity ∧
    locked.plant.accepts 10000 .capacity = true ∧ locked.plant.accepts 9999 .capacity = false ∧
    locked.breaksActive { locked with plant := locked.plant.setValue 10000 .capacity } = false ∧
    ({ ready with normal := { ready.normal with recipeA := List.replicate 2 { markStep with mark := 0, duration := 100 } } }).breaksActive
      { ready with
        normal := { ready.normal with recipeA := List.replicate 2 { markStep with mark := 0, duration := 100 } }
        plant := ready.plant.setValue 10000 .capacity } = true ∧
    settingOf 2 0 = some .returnRate ∧ settingOf 3 0 = some .quietTime ∧ locked.plant.accepts 29 .quietTime = true ∧
    locked.plant.accepts 30 .quietTime = false ∧ settingOf 4 0 = some .lostTime ∧ locked.plant.accepts 6 .lostTime = true ∧
    settingOf 5 8 = some (.polarity .storm) ∧ settingOf 6 1 = some (.qualify .headerTrip) ∧
    locked.plant.accepts 2000 (.qualify .storm) = true ∧ settingOf 7 0 = some .stormEnable ∧
    locked.plant.accepts 1 .stormEnable = true :=
  ⟨locked_ready, by decide⟩

theorem test_hyp_PostureSwitches : Ready locked 1 ∧ locked.holdsLock 1 = true ∧ bankOf 2 = none ∧ bankOf 0 = some locked.active ∧
    bankOf 1 = some locked.active.other ∧ locked.validBank .storm = false ∧
    ({ locked with storm := ready.normal }).validBank .storm = true ∧ Ready { locked with storm := ready.normal } 1 ∧
    ({ calm with switch := some ⟨.storm, .line⟩ }).validBank .storm = false ∧
    ({ calm with switch := some ⟨.storm, .line⟩, storm := ready.normal }).validBank .storm = true ∧
    ({ calm with switch := some ⟨.storm, .line⟩ }).lock = none ∧ calm.header.wash = none :=
  ⟨locked_ready, by decide, rfl, rfl, rfl, by decide, by decide, ready_of (by decide), by decide, by decide, rfl, rfl⟩

/-- A valid target with the header SETTLING, its gap reached and not, in RUNON and in OFFLINE; filters at the target's limits. -/
theorem test_hyp_PostureSwitches_at_limits :
    (∀ h : Header, h = .settling 700 false ∨ h = .settling 701 false ∨ h = .settling 700 true ∨ h = .runon ∨ h = .offline →
      h.wash = none) ∧
    ({ calm with switch := some ⟨.storm, .line⟩, storm := ready.normal }).lock = none ∧
    (ready.normal.headerGap = 1000 - 700 ∧ (ready.normal.runTimeLimit : Int) * 3600 = (259200 : Int) - 0 ∧
      ready.normal.ripeningLimit = 4100 - 500) ∧
    ({ late with switch := some ⟨.storm, .line⟩, storm := ready.normal }).validBank .storm = true ∧
    late.filter 1 = some (ofPort1 (.due promptDue 0)) ∧ promptDue.cls = promptDue.reasons.cls ∧
    late.filter 3 = some (ofPort1 (.ripening 500)) ∧ (∀ g, 3 < g → g ≠ 4 → late.filter g = none) ∧
    late.filter 4 = some (ofPort1 .unknown) := by
  refine ⟨fun h e => ?_, rfl, by decide, by decide, by decide, by decide, by decide, by decide, by decide⟩
  rcases e with rfl | rfl | rfl | rfl | rfl <;> rfl

theorem test_hyp_StoreAndItsCompletion : Ready locked 1 ∧ locked.holdsLock 1 = true ∧ locked.storing = none ∧
    Ready { locked with storing := some ⟨1, Content.default, 50⟩ } 1 ∧
    Settled { calm with storing := some ⟨1, Content.default, 50⟩ } ∧
    Settled { calm with storing := some ⟨1, Content.default, 49⟩ } :=
  ⟨locked_ready, by decide, rfl, ready_of (by decide), settled_of (by decide), settled_of (by decide)⟩

/-- The laws hold together in a state with a queue, a call or a wash and claims, and a step answers from it. -/
theorem test_hyp_EveryStepKeepsTheLaws : BasinLaw locked ∧ ClaimLaw { locked with holder := some 1, hold := some ⟨1, 900⟩ } ∧
    OutputLaw stepping ∧ (∃ t, step stepping = .next t) ∧ StoreLaw locked ∧ BudgetLaw locked ∧ SwitchLaw locked := by
  refine ⟨Nat.le_refl _, ⟨?_, ?_, ?_⟩, ⟨?_, ?_, ?_⟩, ⟨_, rfl⟩, ?_, Nat.zero_le _, ?_⟩
  · intro l h; cases h; decide
  · intro h e; cases e; decide
  · intro p h; revert h; fin_cases p <;> decide
  · intro w r h; cases h; rfl
  · intro st e h; cases h; rfl
  · intro h; cases h
  · intro h; cases h
  · intro x h; cases h

theorem test_hyp_EveryStepKeepsTheRotationLaw : RotationLaw gated := by
  refine ⟨by decide, by decide +kernel, by decide +kernel, by decide +kernel⟩

theorem test_hyp_EveryStepKeepsTheStoredLaws_due : DueLaw calm := by
  have h : ∀ f, (calm.filter f).all (fun r => r.service.dueFields.all fun d =>
      d.reasons.isNonempty && decide (d.cls = d.reasons.cls)) = true := by decide
  intro f r d hf hd
  simpa [hf, hd] using h f

theorem test_hyp_TelegramsAreReadBack : (Instr.withdraw 1 255 255).wf = true ∧
    encodeRequest (.withdraw 1 255 255) = some (1, ⟨7, 255, [255]⟩) := by decide

end Sys2Proof.Tests
end

section
/-! PROOFS. The order of the rotation queue (spec/02 section 2.1): the three keys of R26 read as one condition, a strict order from
it, and the position of an entry in an ordered queue. -/

namespace Sys2Proof.Proofs.QueueOrder

open Sys2Proof.Machine

/-! ### Two entries -/

/-- Filter numbers stand in the order of the places in the Filter Table (R1). -/
theorem numberOf_lt_iff (f g : FilterNo) : numberOf f < numberOf g ↔ f < g :=
  Nat.add_lt_add_iff_right

/-- The three keys of R26, taken in turn. -/
theorem keyBefore_iff (d : Due) (f : FilterNo) (e : Due) (g : FilterNo) :
    keyBefore d f e g = true ↔
      e.cls.code < d.cls.code ∨ (d.cls.code = e.cls.code ∧ (d.queueTime < e.queueTime ∨
        (d.queueTime = e.queueTime ∧ numberOf f < numberOf g))) := by
  simp only [keyBefore, numberOf_lt_iff, Bool.or_eq_true, Bool.and_eq_true, decide_eq_true_eq, beq_iff_eq]

/-- Two entries do not each come before the other. -/
theorem keyBefore_asymm {d e : Due} {f g : FilterNo} (h : keyBefore d f e g = true) : ¬ keyBefore e g d f = true := by
  rw [keyBefore_iff] at h ⊢
  omega

/-- No two entries share a filter number, so the third key never leaves a tie. -/
theorem keyBefore_total {f g : FilterNo} (hne : f ≠ g) (d e : Due) (h : ¬ keyBefore e g d f = true) :
    keyBefore d f e g = true := by
  have hnum : numberOf f ≠ numberOf g := fun he => hne (Fin.ext (Nat.succ.inj he))
  rw [keyBefore_iff] at h ⊢
  omega

/-! ### The queue -/

/-- The order of the queue is asymmetric; a filter without due fields stands before no other and after none. -/
theorem precedes_asymm {s : State} {f g : FilterNo} (h : s.precedes f g = true) : ¬ s.precedes g f = true := by
  unfold State.precedes at h ⊢
  cases hd : s.dueFields f with
  | none => simp [hd] at h
  | some d =>
    cases he : s.dueFields g with
    | none => simp [hd, he] at h
    | some e =>
      simp only [hd, he] at h ⊢
      exact keyBefore_asymm h

/-- No entry comes before itself. -/
theorem precedes_irrefl (s : State) (f : FilterNo) : ¬ s.precedes f f = true :=
  fun h => precedes_asymm h h

/-- In a list in queue order the entries that come before an entry are those that stand ahead of it. -/
theorem countP_precedes_getElem (s : State) (l : List FilterNo) (hl : l.Pairwise fun f g => s.precedes f g = true)
    (n : Nat) (h : n < l.length) : l.countP (fun g => s.precedes g l[n]) = n := by
  induction l generalizing n with
  | nil => exact absurd h (Nat.not_lt_zero n)
  | cons f fs ih =>
    obtain ⟨hhead, htail⟩ := List.pairwise_cons.1 hl
    cases n with
    | zero =>
      have hbehind : fs.countP (fun g => s.precedes g f) = 0 :=
        List.countP_eq_zero.2 fun g hg => precedes_asymm (hhead g hg)
      simp [precedes_irrefl, hbehind]
    | succ m =>
      have hm : m < fs.length := Nat.lt_of_succ_lt_succ h
      have hahead : s.precedes f fs[m] = true := hhead _ (List.getElem_mem hm)
      simp [hahead, ih htail m hm]

/-- Settles O20: the keys as one condition, their asymmetry and totality, and the count by induction on the queue. -/
theorem theQueueOrderHasThreeKeys : Obligations.TheQueueOrderHasThreeKeys := by
  unfold Obligations.TheQueueOrderHasThreeKeys
  refine ⟨keyBefore_iff, fun d f e g hne => ⟨keyBefore_asymm, keyBefore_total hne d e⟩, fun s hs n h => ?_⟩
  exact (countP_precedes_getElem s s.queue hs.order n h).symm

end Sys2Proof.Proofs.QueueOrder
end

section
/-! PROOFS. The attention line of a port (spec/10): the line read as the pending latches whose class is unmasked, and what the mask
and a post do to it. -/

namespace Sys2Proof.Proofs.AttentionLine

open Sys2Proof.Machine

/-! ### Classes and masks -/

/-- The priority list leaves out no class, so the line looks at every latch. -/
theorem mem_allClasses (c : NoticeClass) : c ∈ allClasses := by
  cases c <;> decide

/-- Every class has its own bit among the ten of a mask. -/
theorem bit_lt (c : NoticeClass) : c.bit < 10 := by
  cases c <;> decide

/-- A mask of ones masks all ten classes. -/
theorem masked_allOnes (c : NoticeClass) : masked (BitVec.allOnes 10) c = true := by
  rw [masked, BitVec.getLsbD_allOnes]
  exact decide_eq_true (bit_lt c)

/-! ### The line -/

/-- R162, the condition of the line. -/
theorem attentionLine_iff (q : Port) :
    q.attentionLine = true ↔ ∃ c, q.latches.isPending c = true ∧ masked q.mask c = false := by
  simp [Port.attentionLine, mem_allClasses]

/-- With every class masked the line is deasserted, whatever is pending. -/
theorem attentionLine_of_all_masked (q : Port) (h : ∀ c, masked q.mask c = true) : q.attentionLine = false := by
  rw [Bool.eq_false_iff, ne_eq, attentionLine_iff]
  rintro ⟨c, -, hopen⟩
  simp [h c] at hopen

/-- Only the latches of the unmasked classes reach the line. -/
theorem attentionLine_congr {q r : Port} (hmask : r.mask = q.mask)
    (h : ∀ c, masked q.mask c = false → r.latches.isPending c = q.latches.isPending c) :
    r.attentionLine = q.attentionLine := by
  rw [Bool.eq_iff_iff, attentionLine_iff, attentionLine_iff, hmask]
  exact exists_congr fun c => and_congr_left fun hopen => by rw [h c hopen]

/-- A post that changes the latch of a masked class alone does not move the line. -/
theorem attentionLine_post_of_masked (q : Port) (c : NoticeClass) (n : Notice) (hmasked : masked q.mask c = true)
    (hframe : ∀ d, d ≠ c → (q.latches.post n).notice d = q.latches.notice d) :
    (q.post n).attentionLine = q.attentionLine := by
  refine attentionLine_congr (Port.post_mask q n) fun d hopen => ?_
  have hne : d ≠ c := by
    rintro rfl
    simp [hmasked] at hopen
  exact congrArg Option.isSome (hframe d hne)

/-- Settles O16: the condition of the line, and from it the effect of a mask and of a post. -/
theorem theAttentionLineShowsUnmaskedLatches : Obligations.TheAttentionLineShowsUnmaskedLatches := by
  unfold Obligations.TheAttentionLineShowsUnmaskedLatches
  refine ⟨attentionLine_iff, fun q st => ?_, attentionLine_post_of_masked, fun q c m hpending hopen => ?_,
    fun q n hmask => ?_⟩
  · exact attentionLine_congr rfl fun _ _ => rfl
  · exact (attentionLine_iff { q with mask := m }).2 ⟨c, hpending, hopen⟩
  · refine attentionLine_of_all_masked (q.post n) fun c => ?_
    rw [Port.post_mask, hmask]
    exact masked_allOnes c

end Sys2Proof.Proofs.AttentionLine
end

section
/-! PROOFS. The service start of declared hours (R172): its place on the signed scale, the run time measured from it, and the four
bytes in which it is sent. -/

namespace Sys2Proof.Proofs.ServiceStart

open Sys2Proof.Machine

/-! ### The signed scale -/

/-- The declared hours, taken as seconds on the integers. -/
theorem declaredStart_eq (s : State) (hours : Nat) : s.declaredStart hours = (s.clock : Int) - (hours : Int) * 3600 := by
  simp [State.declaredStart]

/-- The clock is never negative, so 240 hours, the most that RECONCILE takes, bound the service start from below. -/
theorem le_declaredStart (s : State) {hours : Nat} (h : hours ≤ 240) : -864000 ≤ s.declaredStart hours := by
  rw [declaredStart_eq]
  omega

/-- The run time is over once the limit, in seconds, has passed since the service start, whatever the sign of the start. -/
theorem runTimeOver_iff (s : State) (start : Int) :
    s.runTimeOver start = true ↔ (s.activeBank.runTimeLimit : Int) * 3600 ≤ (s.clock : Int) - start := by
  simp [State.runTimeOver]

/-! ### The field -/

/-- The range of a four-byte signed field. -/
theorem fitsSigned32_iff (z : Int) : fitsSigned32 z = true ↔ -2147483648 ≤ z ∧ z ≤ 2147483647 := by
  simp [fitsSigned32]

/-- Two's complement: a negative number is the word that lies its magnitude below 2^32. -/
theorem toNat_ofInt32_of_neg {z : Int} (hlo : -4294967296 ≤ z) (hneg : z < 0) :
    (BitVec.ofInt 32 z).toNat = 4294967296 - z.natAbs := by
  rw [BitVec.toNat_ofInt]
  omega

/-- The bytes of a negative number within the field's range. -/
theorem leSigned32_of_neg {z : Int} (hlo : -2147483648 ≤ z) (hneg : z < 0) :
    leSigned32 z = le32 (4294967296 - z.natAbs) := by
  have hfits : fitsSigned32 z = true := (fitsSigned32_iff z).2 ⟨hlo, by omega⟩
  rw [leSigned32_of_fits hfits, toNat_ofInt32_of_neg (by omega) hneg]

/-- Settles O28: the scale, the run time on it, the manual's filter declared at clock 50 with 30 hours, and the bytes sent. -/
theorem aDeclaredServiceStartMayBeNegative : Obligations.ADeclaredServiceStartMayBeNegative := by
  unfold Obligations.ADeclaredServiceStartMayBeNegative
  refine ⟨fun s hours => ⟨declaredStart_eq s hours, le_declaredStart s⟩, runTimeOver_iff, fun s hclock => ?_,
    fun s hlimit => ?_, fun start hlo hneg => leSigned32_of_neg (by omega) hneg⟩
  · rw [declaredStart_eq, hclock]
    rfl
  · rw [runTimeOver_iff, hlimit]
    omega

end Sys2Proof.Proofs.ServiceStart
end

section
/-! PROOFS. What a step can do, said once: the indivisible effects on the state, and every command as a chain of them. A law of the
state that each effect keeps is kept by every step. -/

namespace Sys2Proof.Machine

/-! ### What the laws read -/

/-- The place of a service state in the rotation: DUE, CALLED or WASHING, with the due fields. -/
inductive Place
  | due (d : Due)
  | called (d : Due)
  | washing (d : Due)

/-- The place that a service state has, if any. -/
def Service.place : Service → Option Place
  | .due d _ => some (.due d)
  | .called d _ => some (.called d)
  | .washing d _ => some (.washing d)
  | .unknown | .inService _ | .ripening _ | .heldOut _ => none

/-- The place of a filter; an absent filter has none. -/
def State.place (s : State) (f : FilterNo) : Option Place := (s.filter f).bind fun r => r.service.place

/-- The port holds neither the lock nor the hold, and its hold-request flag is clear. -/
structure State.Claimless (s : State) (p : PortNo) : Prop where
  lock : ∀ l, s.lock = some l → l.holder ≠ p
  hold : ∀ h, s.hold = some h → h.port ≠ p
  flag : s.holdFlags.get p = false

/-- The bad count of a port is at most 8, and 8 exactly in BLOCKED. -/
structure Port.CountSound (q : Port) : Prop where
  le      : q.badCount ≤ badLimit
  blocked : q.badCount = badLimit ↔ q.state = .blocked

/-- Due fields with a reason, under the class that the reasons imply (R7). -/
structure Due.Sound (d : Due) : Prop where
  reason : d.reasons.isNonempty = true
  cls    : d.cls = d.reasons.cls

/-! ### The effects -/

/-- One indivisible effect: an update that keeps every law of the part, with what its place in the rules guarantees. -/
inductive Effect (s : State) : State → Prop
  | setPending (l : List Instr) : Effect s { s with pending := l }
  | setDraws (n : Nat) : Effect s { s with draws := n }
  | tick : Effect s s.tick
  | loadOn (h k : Nat) : Effect s { s with hundredth := h, phase := .loading k }
  | restart (rate0 rate1 : Bool) : Effect s (s.restart rate0 rate1)
  | completeLoad (intact : Bool) : Effect s (s.completeLoad intact)
  -- ports
  | setPort (p : PortNo) (q : Port) (replies : q.replies.length ≤ (s.port p).replies.length)
      (count : (s.port p).CountSound → q.CountSound)
      (claims : (s.port p).state.isAttached = true → q.state.isAttached = true ∨ s.Claimless p) : Effect s (s.setPort p q)
  | postAttached (n : Notice) : Effect s (s.postAttached n)
  | postPeers (p : PortNo) : Effect s (s.postPeers p)
  | setLock (l : Option Lock) (attached : ∀ x, l = some x → (s.port x.holder).state.isAttached = true) :
      Effect s { s with lock := l }
  | setHold (x : Option Hold) (flags : ByPort Bool)
      (hold : ∀ h, x = some h → s.hold = some h ∨ (s.holder = some h.port ∧ (s.port h.port).state.isAttached = true))
      (flag : ∀ p, flags.get p = true →
        s.holdFlags.get p = true ∨ (s.holder ≠ some p ∧ (s.port p).state.isAttached = true)) :
      Effect s { s with hold := x, holdFlags := flags }
  -- policy and store
  | setBank (b : Bank) (k : BankId) (standby : k ≠ s.active) : Effect s (s.setBank b k)
  | setPlant (x : Plant) (v : Nat) (volume : s.volume ≤ s.plant.capacity → v ≤ x.capacity)
      (active : s.breaksActive { s with plant := x } = false) : Effect s { s with plant := x, volume := v }
  | setSwitch (x : Option PendingSwitch) (target : ∀ y, x = some y → s.switch = some y ∨ y.target = s.active.other) :
      Effect s { s with switch := x }
  | activate (b : BankId) (valid : s.validBank b = true) :
      Effect s { s with active := b, switch := none, budget := min s.budget (s.bank b).runLength }
  | setStore (w : Option StoreWrite) (x : Image) (invalid : w.isSome = true → x.valid = false) :
      Effect s { s with storing := w, image := x }
  -- basin, inputs and supervision
  | setAccount (v : Nat) (a : Option Accrual) (volume : s.volume ≤ s.plant.capacity → v ≤ s.plant.capacity) :
      Effect s { s with volume := v, accrual := a }
  | setInput (i : Input) (v : InputLine) : Effect s (s.setInput i v)
  | setPair (v : Supervision) (pair : Pair) : Effect s (s.setPair v pair)
  -- filters and queue
  | setFilter (f : FilterNo) (x : Option Filter) (place : (x.bind fun r => r.service.place) = s.place f)
      (active : s.breaksActive (s.setFilter f x) = false) : Effect s (s.setFilter f x)
  | leaveQueue (f : FilterNo) (v : Service) (old : ∀ x, s.place f = some x → ∃ d, x = .due d) (new : v.place = none) :
      Effect s ((s.setService f v).dequeue f)
  | enterQueue (f : FilterNo) (d : Due) (start : Int) (present : (s.filter f).isSome = true) (old : s.place f = none)
      (due : d.Sound) : Effect s ((s.setService f (.due d start)).enqueue f)
  | addReasons (f : FilterNo) (new : Reasons) : Effect s (s.addReasons f new)
  -- the header
  | setHeader (h : Header) (called : h.calledFilter = s.header.calledFilter)
      (washing : h.washing.map Wash.filter = s.header.washing.map Wash.filter)
      (still : (∀ w r, s.header ≠ .stepping w r) ∧ ∀ w r, h ≠ .stepping w r)
      (valid : s.header = .offline → h = .offline ∨ s.validBank s.active = true) : Effect s (s.withHeader h)
  | mapWash (g : Wash → Wash) (filter : ∀ w, (g w).filter = w.filter) (snapshot : ∀ w, (g w).snapshot = w.snapshot) :
      Effect s { s with header := s.header.mapWash g }
  | select (f : FilterNo) (r : Filter) (idle : s.header = .idle) (candidate : s.candidate = some f)
      (present : s.filter f = some r) : Effect s (s.select f r)
  | endCall (w : Wash) (time : Option Nat) (calling : s.header = .calling w) : Effect s (s.endCall w time)
  | holdCalled (w : Wash) (reason : HeldReason) (calling : s.header = .calling w) :
      Effect s ((s.setService w.filter (.heldOut reason)).withHeader .idle)
  | isolate (w : Wash) (d : Due) (start : Int) (r : Run) (since : Nat) (calling : s.header = .calling w)
      (called : (s.filter w.filter).map Filter.service = some (.called d start)) :
      Effect s ((s.setService w.filter (.washing d start)).withHeader (.gated w r since))
  | drive (w v : Wash) (r : Run) (st : Step) (n : Nat) (washing : s.header.washing = some v) (filter : w.filter = v.filter)
      (step : w.stepAt r.step = some st) : Effect s ((s.setOutputs (st.pattern r.elapsed) n).withHeader (.stepping w r))
  | pause (h : Header) (v w : Wash) (n : Nat) (washing : s.header.washing = some v) (keeps : h.washing = some w)
      (filter : w.filter = v.filter) (still : ∀ w r, h ≠ .stepping w r) : Effect s ((s.setOutputs Lines.allOff n).withHeader h)
  | abortEntry (w v : Wash) (r x : Option Run) (cause : AbortCause) (n : Nat) (live : s.header.live = some (v, x))
      (filter : w.filter = v.filter) :
      Effect s (((s.setOutputs Lines.allOff n).withHeader (.aborting w r cause)).abortFilter w)
  | completion (w : Wash) (r : Run) (n since : Nat) (taken : Bool) (stepping : s.header = .stepping w r) :
      Effect s (((s.setOutputs Lines.allOff n).completeFilter w.filter).withHeader (.settling since taken))
  | appendHistory (x : HistoryRecord) (seq : x.seq = s.nextSeq) : Effect s (s.appendHistory x)

/-- A chain of effects. -/
def Effects : State → State → Prop := Relation.ReflTransGen Effect

/-- A chain of effects in which replies may join the reply queues that have room. -/
def StepEffects : State → State → Prop :=
  Relation.ReflTransGen fun s t => Effect s t ∨ ∃ p r, s.repliesFull p = false ∧ t = s.reply p r

theorem Effect.chain {s t : State} (h : Effect s t) : Effects s t := Relation.ReflTransGen.single h

theorem Effects.refl (s : State) : Effects s s := Relation.ReflTransGen.refl

theorem Effects.trans {s t u : State} (h : Effects s t) (h' : Effects t u) : Effects s u := Relation.ReflTransGen.trans h h'

theorem StepEffects.refl (s : State) : StepEffects s s := Relation.ReflTransGen.refl

theorem StepEffects.trans {s t u : State} (h : StepEffects s t) (h' : StepEffects t u) : StepEffects s u :=
  Relation.ReflTransGen.trans h h'

theorem Effects.step {s t : State} (h : Effects s t) : StepEffects s t := Relation.ReflTransGen.mono (fun _ _ => Or.inl) _ _ h

theorem StepEffects.reply {s : State} {p : PortNo} (r : Reply) (h : s.repliesFull p = false) : StepEffects s (s.reply p r) :=
  Relation.ReflTransGen.single (Or.inr ⟨p, r, h, rfl⟩)

/-- A law that every effect and every reply keeps is kept along a chain. -/
theorem StepEffects.keeps {P : State → Prop} {s t : State} (h : StepEffects s t)
    (he : ∀ s t, Effect s t → P s → P t) (hr : ∀ s p r, s.repliesFull p = false → P s → P (s.reply p r)) (hs : P s) :
    P t := by
  induction h with
  | refl => exact hs
  | tail _ hstep ih =>
    rcases hstep with hstep | ⟨p, r, hp, rfl⟩
    · exact he _ _ hstep ih
    · exact hr _ p r hp ih

end Sys2Proof.Machine
end

section
/-! PROOFS. The shared operations as chains of effects. -/

namespace Sys2Proof.Machine

/-! ### Validity by the letters of the present filters (R124) -/

/-- Validity of a bank reads which filters are present, and under which letter. -/
theorem State.validBank_of_letters {s t : State}
    (hl : ∀ f, (t.filter f).map Filter.letter = (s.filter f).map Filter.letter) (hn : t.normal = s.normal)
    (hs : t.storm = s.storm) (hc : t.plant.capacity = s.plant.capacity) (b : BankId) : t.validBank b = s.validBank b := by
  have hcells : t.filters.cells.map (Option.map Filter.letter) = s.filters.cells.map (Option.map Filter.letter) := by
    refine List.ext_getElem (by simp [t.filters.size, s.filters.size]) fun i hi _ => ?_
    have hi' : i < 32 := by simpa [t.filters.size] using hi
    simpa [State.filter, Table.get] using hl ⟨i, hi'⟩
  have hb : t.bank b = s.bank b := State.bank_congr hn hs b
  have hpresent : ∀ u : State, u.presentCount = (u.filters.cells.map (Option.map Filter.letter)).countP Option.isSome :=
    fun u => by simp [State.presentCount, List.countP_map, Function.comp_def]
  have hfits : ∀ l, t.recipeFits b l = s.recipeFits b l := fun l => by simp [State.recipeFits, hb, hc]
  have hall : ∀ u : State, (u.filters.cells.all fun r => r.all fun x => s.recipeFits b x.letter) =
      (u.filters.cells.map (Option.map Filter.letter)).all fun r => r.all (s.recipeFits b) := fun u => by
    simp [List.all_map, Function.comp_def, Option.all_map]
  simp only [State.validBank, hb, hfits, hpresent t, hpresent s, hall, hcells]

theorem State.breaksActive_of_valid {s t : State} (ha : t.active = s.active)
    (h : t.validBank s.active = s.validBank s.active) : s.breaksActive t = false := by
  simp [State.breaksActive, ha, h]

/-- A record that keeps its letter leaves every bank as valid as it was. -/
theorem State.validBank_setFilter {s : State} {f : FilterNo} {x : Option Filter}
    (hl : x.map Filter.letter = (s.filter f).map Filter.letter) (b : BankId) :
    (s.setFilter f x).validBank b = s.validBank b := by
  refine State.validBank_of_letters (s := s) (t := s.setFilter f x) (fun g => ?_) rfl rfl rfl b
  by_cases hg : g = f
  · subst hg; simp [hl]
  · rw [State.filter_setFilter_ne _ _ hg]

/-! ### Ports -/

theorem Effects.setPending (s : State) (l : List Instr) : Effects s { s with pending := l } := (Effect.setPending l).chain

/-- A change of a port that is neither a change of state, nor of the bad count, nor a reply more. -/
theorem Effects.setPort_of {s : State} {p : PortNo} {q : Port} (hs : q.state = (s.port p).state)
    (hc : q.badCount = (s.port p).badCount) (hr : q.replies.length ≤ (s.port p).replies.length) :
    Effects s (s.setPort p q) :=
  (Effect.setPort p q hr (fun h => ⟨hc ▸ h.le, by rw [hc, hs]; exact h.blocked⟩) fun h => Or.inl (hs ▸ h)).chain

theorem Effects.postTo (s : State) (p : PortNo) (n : Notice) : Effects s (s.postTo p n) :=
  Effects.setPort_of rfl rfl (Nat.le_refl _)

theorem Effects.postAttached (s : State) (n : Notice) : Effects s (s.postAttached n) := (Effect.postAttached n).chain

theorem Effects.postPeers (s : State) (p : PortNo) : Effects s (s.postPeers p) := (Effect.postPeers p).chain

theorem Effects.postOwner (s : State) (f : FilterNo) (n : Notice) : Effects s (s.postOwner f n) := by
  unfold State.postOwner
  split
  · exact Effects.postTo _ _ _
  · exact Effects.refl s

/-! ### Filters -/

/-- A record that keeps its letter and its place in the rotation. -/
theorem Effects.setFilter {s : State} {f : FilterNo} {x : Option Filter}
    (hp : (x.bind fun r => r.service.place) = s.place f) (hl : x.map Filter.letter = (s.filter f).map Filter.letter) :
    Effects s (s.setFilter f x) :=
  (Effect.setFilter f x hp (State.breaksActive_of_valid rfl (State.validBank_setFilter hl _))).chain

theorem Effects.mapFilter {s : State} {f : FilterNo} {g : Filter → Filter}
    (hp : ∀ r, s.filter f = some r → (g r).service.place = r.service.place) (hl : ∀ r, (g r).letter = r.letter) :
    Effects s (s.mapFilter f g) := by
  refine Effects.setFilter ?_ ?_ <;> cases h : s.filter f <;> simp [State.place, h, hl]
  exact hp _ h

theorem Effects.setService {s : State} {f : FilterNo} {v : Service} (hv : v.place = none) (hf : s.place f = none) :
    Effects s (s.setService f v) :=
  Effects.mapFilter (fun r hr => by simpa [State.place, hr, hv] using hf.symm) fun _ => rfl

theorem State.place_eq {s : State} {f : FilterNo} {v : Service} (h : (s.filter f).map Filter.service = some v) :
    s.place f = v.place := by
  obtain ⟨r, hr, rfl⟩ := Option.map_eq_some_iff.1 h
  simp [State.place, hr]

theorem Effects.addReasons (s : State) (f : FilterNo) (new : Reasons) : Effects s (s.addReasons f new) :=
  (Effect.addReasons f new).chain

theorem Effects.expireRunTime (s : State) (f : FilterNo) : Effects s (s.expireRunTime f) := by
  unfold State.expireRunTime
  split
  · exact Effects.addReasons _ _ _
  · exact Effects.refl s

theorem Effects.expireRipening (s : State) (f : FilterNo) : Effects s (s.expireRipening f) := by
  unfold State.expireRipening
  split
  · rename_i h
    have hf : s.place f = none := by
      unfold State.ripeningDue at h
      split at h
      · rename_i hr
        exact State.place_eq hr
      · cases h
    exact (Effects.setService rfl hf).trans (Effects.postOwner _ _ _)
  · exact Effects.refl s

theorem Effects.expireFilters (s : State) : Effects s s.expireFilters := by
  unfold State.expireFilters
  generalize allFilters = l
  induction l generalizing s with
  | nil => exact Effects.refl s
  | cons f l ih => exact ((Effects.expireRunTime s f).trans (Effects.expireRipening _ f)).trans (ih _)

/-! ### Headers without a transaction under way -/

/-- The header states that neither carry a called or washing filter nor are OFFLINE. -/
def Header.spent : Header → Bool
  | .idle | .aborting _ _ _ | .runon | .settling _ _ => true
  | .offline | .calling _ | .gated _ _ _ | .stepping _ _ | .holding _ _ _ => false

theorem Header.spent_frame {h : Header} (hh : h.spent = true) :
    h.calledFilter = none ∧ h.washing = none ∧ (∀ w r, h ≠ .stepping w r) ∧ h ≠ .offline := by
  cases h <;> simp_all [Header.spent, Header.calledFilter, Header.washing]

theorem Effects.setHeader {s : State} {h : Header} (hs : s.header.spent = true) (hh : h.spent = true) :
    Effects s (s.withHeader h) := by
  obtain ⟨hs1, hs2, hs3, hs4⟩ := Header.spent_frame hs
  obtain ⟨hh1, hh2, hh3, -⟩ := Header.spent_frame hh
  exact (Effect.setHeader h (hh1.trans hs1.symm) (by rw [hh2, hs2]) ⟨hs3, hh3⟩ fun e => absurd e hs4).chain

theorem Effects.enterSettling {s : State} (hs : s.header.spent = true) : Effects s s.enterSettling :=
  Effects.setHeader hs rfl

theorem Effects.enterRunon {s : State} (hs : s.header.spent = true) : Effects s s.enterRunon := by
  unfold State.enterRunon
  have ht : Effects s ((s.withHeader .runon).postAttached (.headerFault .runon)) :=
    (Effects.setHeader hs rfl).trans (Effects.postAttached _ _)
  dsimp only
  split
  · exact ht.trans (Effects.enterSettling (by simp [Header.spent]))
  · exact ht

theorem Effects.leaveAborting (s : State) : Effects s s.leaveAborting := by
  unfold State.leaveAborting
  split
  · rename_i h
    have hs : s.header.spent = true := by rw [h]; rfl
    split
    · exact Effects.enterRunon hs
    · split
      · exact Effects.refl s
      · exact Effects.enterSettling hs
  · exact Effects.refl s

theorem Effects.expireGap (s : State) : Effects s s.expireGap := by
  unfold State.expireGap
  split
  · rename_i h
    have hs : s.header.spent = true := by rw [h]; rfl
    split
    · split <;> exact Effects.setHeader hs rfl
    · exact Effects.refl s
  · exact Effects.refl s

theorem Effects.windowEnded (s : State) : Effects s s.windowEnded := by
  unfold State.windowEnded
  split
  · exact Effects.leaveAborting s
  · rename_i h
    split
    · exact Effects.setHeader (by rw [h]; rfl) rfl
    · exact Effects.refl s
  · rename_i h
    split
    · exact Effects.enterSettling (by rw [h]; rfl)
    · exact Effects.refl s
  · exact Effects.refl s

/-! ### Aborts and completion -/

theorem Effects.appendHistory {s : State} {x : HistoryRecord} (h : x.seq = s.nextSeq) : Effects s (s.appendHistory x) :=
  (Effect.appendHistory x h).chain

theorem Effects.postFault (s : State) (p : PortNo) (cause : AbortCause) : Effects s (s.postFault p cause) := by
  unfold State.postFault
  split
  · exact Effects.postTo _ _ _
  · exact Effects.refl s

theorem Effects.abortWash {s : State} {w v : Wash} {r x : Option Run} (cause : AbortCause)
    (hl : s.header.live = some (v, x)) (hf : w.filter = v.filter) : Effects s (s.abortWash w r cause) := by
  unfold State.abortWash
  exact ((((Effect.abortEntry w v r x cause _ hl hf).chain.trans (Effects.appendHistory (by simp [State.historyRecord]))).trans
    (Effects.postTo _ _ _)).trans (Effects.postFault _ _ _)).trans (Effects.leaveAborting _)

theorem Effects.setAccrual (s : State) (a : Option Accrual) : Effects s { s with accrual := a } :=
  (Effect.setAccount s.volume a id).chain

theorem Effects.chargeAccrual (s : State) : Effects s s.chargeAccrual := by
  unfold State.chargeAccrual
  split
  · rename_i a _
    split
    · exact Effects.refl s
    · exact (Effect.mapWash (fun w => { w with volumeAdded := w.volumeAdded + a.inflow }) (fun _ => rfl)
        fun _ => rfl).chain.trans (Effects.setAccrual _ _)
  · exact Effects.refl s

theorem Effects.takeAccrual (s : State) : Effects s s.takeAccrual := by
  unfold State.takeAccrual
  split
  · rename_i a _
    refine Effects.trans (t := if a.charged then s else s.addToWash a.inflow) ?_ ?_
    · split
      · exact Effects.refl s
      · exact (Effect.mapWash (fun w => { w with volumeAdded := w.volumeAdded + a.inflow }) (fun _ => rfl)
          fun _ => rfl).chain
    · refine (Effect.setAccount _ none fun h => ?_).chain
      split <;> split <;> simp_all [State.addToWash]
  · exact Effects.refl s

theorem Effects.abort (s : State) (cause : AbortCause) : Effects s (s.abort cause) := by
  unfold State.abort
  split
  · rename_i w r h
    exact (Effects.chargeAccrual s).trans (Effects.abortWash cause h rfl)
  · exact Effects.refl s

end Sys2Proof.Machine
end

section
/-! PROOFS. The Wash Unit, the ports, the posture switch and the selection as chains of effects. -/

namespace Sys2Proof.Machine

/-! ### A change of the transaction record that leaves the header state -/

@[simp] theorem Header.mapWash_live (g : Wash → Wash) (h : Header) :
    (h.mapWash g).live = h.live.map fun x => (g x.1, x.2) := by cases h <;> rfl

@[simp] theorem Header.mapWash_washing (g : Wash → Wash) (h : Header) :
    (h.mapWash g).washing = h.washing.map g := by cases h <;> rfl

@[simp] theorem Header.mapWash_spent (g : Wash → Wash) (h : Header) : (h.mapWash g).spent = h.spent := by cases h <;> rfl

@[simp] theorem Header.mapWash_id (h : Header) : (h.mapWash fun w => w) = h := by cases h <;> rfl

theorem Header.mapWash_calledFilter {g : Wash → Wash} (hg : ∀ w, (g w).filter = w.filter) (h : Header) :
    (h.mapWash g).calledFilter = h.calledFilter := by cases h <;> simp [Header.mapWash, Header.calledFilter, hg]

theorem Header.mapWash_current {g : Wash → Wash} (hg : ∀ w, (g w).snapshot = w.snapshot) (h : Header) :
    (h.mapWash g).current = h.current := by cases h <;> simp [Header.mapWash, Header.current, Wash.stepAt, hg]

/-- Inflow added to the transaction record (R113). -/
def Wash.addVolume (n : Nat) (w : Wash) : Wash := { w with volumeAdded := w.volumeAdded + n }

/-- The charge of an accrual changes the accrual, and the transaction record by the inflow it adds. -/
theorem State.exists_chargeAccrual (s : State) :
    ∃ n a, s.chargeAccrual = { s with header := s.header.mapWash (Wash.addVolume n), accrual := a } := by
  have hid : s = { s with header := s.header.mapWash (Wash.addVolume 0), accrual := s.accrual } := by
    rw [show Wash.addVolume 0 = fun w => w from rfl, Header.mapWash_id]
  unfold State.chargeAccrual
  split
  · split
    · exact ⟨0, s.accrual, hid⟩
    · exact ⟨_, _, rfl⟩
  · exact ⟨0, s.accrual, hid⟩

/-! ### Steps -/

theorem Header.live_of_washing {h : Header} {w : Wash} (hw : h.washing = some w) : ∃ r, h.live = some (w, r) := by
  cases h <;> simp_all [Header.washing, Header.live]

/-- The abort of a step at its begin (R73): the header of the step's begin is the abort's to overwrite. -/
theorem Effects.abortStep {s : State} {w v : Wash} (r : Run) (cause : AbortCause) (hv : s.header.washing = some v)
    (hf : w.filter = v.filter) : Effects s ((s.withHeader (.stepping w r)).abort cause) := by
  obtain ⟨n, a, hc⟩ := (s.withHeader (.stepping w r)).exists_chargeAccrual
  obtain ⟨x, hx⟩ := Header.live_of_washing hv
  unfold State.abort
  rw [hc]
  exact (Effects.setAccrual s a).trans (Effects.abortWash (s := { s with accrual := a }) (w := w.addVolume n) (v := v)
    (r := some r) cause hx hf)

theorem Effects.enterStepping {s : State} {w v : Wash} {r : Run} {st : Step} (hv : s.header.washing = some v)
    (hf : w.filter = v.filter) (hs : w.stepAt r.step = some st) : Effects s (s.enterStepping w r st) :=
  (Effect.drive { w with waterReached := w.waterReached || st.pump != .off } v r st _ hv hf hs).chain

theorem Effects.enterHolding {s : State} {w v : Wash} (r : Run) (hv : s.header.washing = some v)
    (hf : w.filter = v.filter) : Effects s (s.enterHolding w r) :=
  (Effect.pause (.holding w { r with secondDue := false } s.clock) v w _ hv rfl hf (by simp)).chain

theorem Effects.beginStep {s : State} {w v : Wash} {r : Run} {st : Step} (hv : s.header.washing = some v)
    (hf : w.filter = v.filter) (hs : w.stepAt r.step = some st) : Effects s (s.beginStep w r st) := by
  unfold State.beginStep
  split
  · exact Effects.abortStep r _ hv hf
  · split
    · split
      · exact Effects.enterHolding r hv hf
      · exact Effects.abortStep r _ hv hf
    · exact Effects.enterStepping hv hf hs

theorem Effects.enterGate {s : State} {w v : Wash} (r : Run) (hv : s.header.washing = some v)
    (hf : w.filter = v.filter) : Effects s (s.enterGate w r) :=
  (Effect.pause (.gated w r s.clock) v w _ hv rfl hf (by simp)).chain.trans (Effects.postTo _ _ _)

theorem Effects.stepDue {s : State} {w v : Wash} {time number : Nat} {st : Step} (hv : s.header.washing = some v)
    (hf : w.filter = v.filter) (hs : w.stepAt number = some st) : Effects s (s.stepDue w time number st) := by
  unfold State.stepDue
  dsimp only
  split
  · exact Effects.enterGate _ hv hf
  · exact Effects.beginStep hv hf hs

theorem Effects.tripAsserted (s : State) (cause : AbortCause) : Effects s (s.tripAsserted cause) := by
  unfold State.tripAsserted
  split
  · rename_i w r h
    split
    · split
      · exact Effects.enterHolding (v := w) r (by rw [h]; rfl) rfl
      · exact Effects.abort _ _
    · exact Effects.refl s
  · exact Effects.refl s

theorem Effects.tripReleased (s : State) : Effects s s.tripReleased := by
  unfold State.tripReleased
  split
  · rename_i w r since h
    split
    · exact Effects.refl s
    · split
      · rename_i st hst
        exact Effects.enterStepping (v := w) (by rw [h]; rfl) rfl hst
      · exact Effects.refl s
  · exact Effects.refl s

theorem Effects.complete (s : State) : Effects s s.complete := by
  unfold State.complete
  split
  · rename_i w r h
    refine (Effects.chargeAccrual s).trans ?_
    generalize s.chargeAccrual = t at h ⊢
    have hdone := (Effect.completion w r (t.feedbackWindow { w with stepsCompleted := w.stepsCompleted + 1 }) t.clock false
      h).chain
    exact (hdone.trans (Effects.appendHistory (x := t.historyRecord { w with stepsCompleted := w.stepsCompleted + 1 }
      (some r) .complete none) (by simp [State.historyRecord]))).trans (Effects.postTo _ w.owner (.washEnd w.filter .complete))
  · exact Effects.refl s

/-! ### Feedback -/

theorem Effects.feedbackFault (s : State) : Effects s s.feedbackFault := by
  unfold State.feedbackFault
  split
  · exact Effects.abort _ _
  · exact Effects.refl s

theorem Effects.setPair (s : State) (v : Supervision) (pair : Pair) : Effects s (s.setPair v pair) :=
  (Effect.setPair v pair).chain

theorem Wash.capture_frame (w : Wash) (n : Nat) (pair : Pair) :
    (w.capture n pair).filter = w.filter ∧ (w.capture n pair).snapshot = w.snapshot := by
  cases pair <;> exact ⟨rfl, rfl⟩

theorem Effects.feedbackAsserted (s : State) (pair : Pair) : Effects s (s.feedbackAsserted pair) := by
  unfold State.feedbackAsserted
  split
  · rename_i w _
    have hmap := Effect.mapWash (s := s.setPair .running pair) (fun x => x.capture (s.clock - w.start) pair)
      (fun x => (x.capture_frame _ _).1) fun x => (x.capture_frame _ _).2
    rw [State.setPair_header] at hmap
    exact (Effects.setPair s _ pair).trans hmap.chain
  all_goals exact Effects.refl s

theorem Effects.feedbackDeasserted (s : State) (pair : Pair) : Effects s (s.feedbackDeasserted pair) := by
  unfold State.feedbackDeasserted
  split
  · exact Effects.feedbackFault s
  · exact (Effects.setPair s _ pair).trans (Effects.windowEnded _)
  · exact (Effects.setPair s _ pair).trans (Effects.windowEnded _)
  · exact Effects.windowEnded s
  · exact Effects.refl s

theorem Effects.overrunReported (s : State) : Effects s s.overrunReported := by
  unfold State.overrunReported
  split
  · exact Effects.abort _ _
  · exact Effects.abort _ _
  · exact Effects.abort _ _
  · rename_i h
    exact Effects.enterRunon (by rw [h]; rfl)
  · rename_i h
    exact Effects.enterRunon (by rw [h]; rfl)
  all_goals exact Effects.refl s

/-! ### Inputs and basin -/

theorem Effects.setVolume {s : State} {v : Nat} (h : v ≤ s.plant.capacity) : Effects s (s.setVolume v) :=
  (Effect.setAccount v _ fun _ => h).chain

theorem Effects.setSwitch {s : State} {x : Option PendingSwitch}
    (h : ∀ y, x = some y → s.switch = some y ∨ y.target = s.active.other) : Effects s { s with switch := x } :=
  (Effect.setSwitch x h).chain

theorem BankId.eq_other {a b : BankId} (h : a ≠ b) : a = b.other := by
  cases a <;> cases b <;> simp_all [BankId.other]

theorem Effects.stormActs (s : State) : Effects s s.stormActs := by
  unfold State.stormActs
  generalize (if s.asserted .storm then BankId.storm else .normal) = b
  dsimp only
  split
  · exact Effects.setSwitch (by simp)
  · rename_i hb
    split
    · exact Effects.refl s
    · exact Effects.setSwitch fun y hy => Or.inr (by cases hy; exact BankId.eq_other hb)

theorem Effects.levelEffects (s : State) (i : Input) : Effects s (s.levelEffects i) := by
  unfold State.levelEffects
  split <;> try split
  · exact Effects.abort _ _
  · exact Effects.refl s
  · exact Effects.tripAsserted _ _
  · exact Effects.tripReleased s
  · exact (Effects.setVolume (Nat.le_refl _)).trans (Effects.tripAsserted _ _)
  · exact Effects.tripReleased s
  · exact Effects.setVolume (Nat.zero_le _)
  · exact Effects.refl s
  · exact Effects.refl s
  · exact Effects.feedbackAsserted s _
  · exact Effects.feedbackDeasserted s _
  · exact Effects.feedbackAsserted s _
  · exact Effects.feedbackDeasserted s _
  · exact Effects.stormActs s
  · exact Effects.refl s

theorem Effects.setInput (s : State) (i : Input) (v : InputLine) : Effects s (s.setInput i v) := (Effect.setInput i v).chain

theorem Effects.qualify (s : State) (i : Input) : Effects s (s.qualify i) := by
  unfold State.qualify
  split
  · exact (Effects.setInput s i _).trans (Effects.levelEffects _ i)
  · exact Effects.refl s

/-! ### Leaving effects (R157) -/

theorem Effects.setLock {s : State} {l : Option Lock} (h : ∀ x, l = some x → (s.port x.holder).state.isAttached = true) :
    Effects s { s with lock := l } := (Effect.setLock l h).chain

theorem Effects.dropLock (s : State) (p : PortNo) : Effects s (s.dropLock p) := by
  unfold State.dropLock
  split
  · exact Effects.setLock (by simp)
  · exact Effects.refl s

theorem Effects.setHold {s : State} {x : Option Hold} {flags : ByPort Bool}
    (hh : ∀ h, x = some h → s.hold = some h ∨ (s.holder = some h.port ∧ (s.port h.port).state.isAttached = true))
    (hf : ∀ p, flags.get p = true →
      s.holdFlags.get p = true ∨ (s.holder ≠ some p ∧ (s.port p).state.isAttached = true)) :
    Effects s { s with hold := x, holdFlags := flags } := (Effect.setHold x flags hh hf).chain

/-- A hold ends. -/
theorem Effects.endHold (s : State) : Effects s { s with hold := none } :=
  Effects.setHold (s := s) (x := none) (flags := s.holdFlags) (by simp) fun _ => Or.inl

theorem ByPort.get_set_eq {α : Type} (v : ByPort α) (p q : PortNo) (x : α) :
    (v.set p x).get q = if q = p then x else v.get q := by
  by_cases h : q = p
  · subst h; simp
  · simp [h, ByPort.get_set_ne v x h]

theorem Effects.dropHold (s : State) (p : PortNo) : Effects s (s.dropHold p) := by
  refine Effects.setHold (fun h hh => ?_) fun q hq => ?_
  · split at hh
    · cases hh
    · exact Or.inl hh
  · rw [ByPort.get_set_eq] at hq
    split at hq
    · cases hq
    · exact Or.inl hq

theorem Effects.endCall {s : State} {w : Wash} (time : Option Nat) (h : s.header = .calling w) :
    Effects s (s.endCall w time) := (Effect.endCall w time h).chain

/-- A leaving port ends its call, aborts its wash, or has none (R68, R81). -/
theorem State.dropWash_cases (s : State) (p : PortNo) :
    s.dropWash p = s ∨ (∃ w, s.header = .calling w ∧ s.dropWash p = s.endCall w none) ∨
      s.dropWash p = s.abort .stationLost := by
  have habort : ∀ w : Wash, (if w.owner = p then s.abort .stationLost else s) = s ∨
      (if w.owner = p then s.abort .stationLost else s) = s.abort .stationLost := fun w => by
    by_cases ho : w.owner = p
    · exact .inr (if_pos ho)
    · exact .inl (if_neg ho)
  unfold State.dropWash
  cases s.header with
  | calling w =>
    by_cases ho : w.owner = p
    · exact .inr (.inl ⟨w, rfl, if_pos ho⟩)
    · exact .inl (if_neg ho)
  | gated w _ _ => exact (habort w).imp_right .inr
  | stepping w _ => exact (habort w).imp_right .inr
  | holding w _ _ => exact (habort w).imp_right .inr
  | _ => exact .inl rfl

theorem Effects.dropWash (s : State) (p : PortNo) : Effects s (s.dropWash p) := by
  rcases s.dropWash_cases p with h | ⟨w, hh, h⟩ | h <;> rw [h]
  · exact Effects.refl s
  · exact Effects.endCall _ hh
  · exact Effects.abort _ _

theorem State.dropHold_dropLock_claimless (s : State) (p : PortNo) : ((s.dropLock p).dropHold p).Claimless p where
  lock l hl := by
    simp only [State.dropHold, State.dropLock] at hl
    split at hl
    · cases hl
    · rename_i hn
      simpa [hl] using hn
  hold h hh := by
    simp only [State.dropHold] at hh
    split at hh
    · cases hh
    · rename_i hn
      simp only [hh, Option.any_some, Bool.not_eq_true, beq_eq_false_iff_ne] at hn
      exact hn
  flag := by simp [State.dropHold]

/-- The claims of a port may as well be dropped before it takes its new state. -/
theorem State.dropHold_dropLock_setPort (s : State) (p : PortNo) (q : Port) :
    ((s.setPort p q).dropLock p).dropHold p = ((s.dropLock p).dropHold p).setPort p q := by
  unfold State.dropLock
  by_cases h : (s.lock.any fun l => l.holder == p) = true <;> simp only [State.setPort_lock, h] <;> rfl

theorem State.port_dropHold_dropLock (s : State) (p i : PortNo) : ((s.dropLock p).dropHold p).port i = s.port i := by
  simp [State.port]

/-- A port takes a new state, with the leaving effects where it was attached. -/
theorem Effects.leavePort {s : State} {p : PortNo} {st : PortState}
    (hc : (s.port p).CountSound → Port.CountSound { s.port p with state := st }) : Effects s (s.leavePort p st) := by
  unfold State.leavePort State.leavingEffects State.setPortState
  dsimp only
  split
  · rw [State.dropHold_dropLock_setPort]
    refine (((Effects.dropLock s p).trans (Effects.dropHold _ p)).trans (Effect.chain ?_)).trans (Effects.dropWash _ p)
    exact Effect.setPort p _ (by simp [State.port_dropHold_dropLock]) (by simpa [State.port_dropHold_dropLock] using hc)
      fun _ => Or.inr (State.dropHold_dropLock_claimless s p)
  · rename_i h
    exact (Effect.setPort p { s.port p with state := st } (Nat.le_refl _) hc fun hn => absurd hn h).chain

theorem Effects.losePort {s : State} {p : PortNo} {st : PortState}
    (hc : (s.port p).CountSound → Port.CountSound { s.port p with state := st }) : Effects s (s.losePort p st) :=
  (Effects.leavePort hc).trans (Effects.postPeers _ p)

/-- The bad count of a port that is not BLOCKED stays sound under any other state. -/
theorem Port.CountSound.withState {q : Port} (h : q.CountSound) (hq : q.state ≠ .blocked) {st : PortState}
    (hst : st ≠ .blocked) : Port.CountSound { q with state := st } where
  le := h.le
  blocked := ⟨fun hb => absurd (h.blocked.1 hb) hq, fun hb => absurd hb hst⟩

theorem Effects.loseAttached {s : State} {p : PortNo} (h : (s.port p).state.isAttached = true) :
    Effects s (s.losePort p .lost) :=
  Effects.losePort fun hc => hc.withState (by rintro e; rw [e] at h; cases h) (by simp)

theorem Effects.quietPort {s : State} {p : PortNo} (h : (s.port p).state = .attached) : Effects s (s.quietPort p) :=
  (Effect.setPort p { s.port p with state := .quiet } (Nat.le_refl _) (fun hc => hc.withState (by simp [h]) (by simp))
    fun _ => Or.inl rfl).chain.trans (Effects.postPeers _ p)

theorem Effects.applyTimes (s : State) (p : PortNo) : Effects s (s.applyTimes p) := by
  unfold State.applyTimes
  split
  · rename_i h
    split
    · exact Effects.loseAttached (by rw [h]; rfl)
    · split
      · exact Effects.quietPort h
      · exact Effects.refl s
  · rename_i h
    split
    · exact Effects.loseAttached (by rw [h]; rfl)
    · exact Effects.refl s
  all_goals exact Effects.refl s

theorem Effects.applyTimesAll (s : State) : Effects s s.applyTimesAll := by
  unfold State.applyTimesAll
  generalize allPorts = l
  induction l generalizing s with
  | nil => exact Effects.refl s
  | cons p l ih => exact (Effects.applyTimes s p).trans (ih _)

/-! ### Frames -/

theorem State.not_blocked_of_takesFrame {s : State} {p : PortNo} (h : s.takesFrame p = true) :
    (s.port p).state ≠ .blocked := by
  intro e
  simp [State.takesFrame, State.receives, e] at h

theorem Effects.goodFrame {s : State} {p : PortNo} (h : (s.port p).state ≠ .blocked) : Effects s (s.goodFrame p) := by
  have hcount : ∀ q : Port, q.badCount = 0 → q.state ≠ .blocked → q.CountSound := fun q h0 hb =>
    ⟨by simp [h0], by simp [h0, hb, badLimit]⟩
  unfold State.goodFrame
  dsimp only
  split
  · refine Effects.trans (Effect.chain ?_) (Effects.postPeers _ p)
    simp only [State.setPortState, State.port_setPort, State.setPort_setPort]
    exact Effect.setPort p _ (Nat.le_refl _) (fun _ => hcount _ rfl (by simp)) fun _ => Or.inl rfl
  · exact (Effect.setPort p _ (by exact Nat.le_refl _) (fun _ => hcount _ (by rfl) (by exact h)) (by exact Or.inl)).chain

theorem State.leavePort_setPort (s : State) (p : PortNo) (q : Port) (st : PortState) (hq : q.state = (s.port p).state) :
    (s.setPort p q).leavePort p st =
      if (s.port p).state.isAttached then (s.setPort p { q with state := st }).leavingEffects p
      else s.setPort p { q with state := st } := by
  simp [State.leavePort, State.setPortState, hq]

/-- A discarded frame: the count rises; at 8 the port is BLOCKED with its claims dropped. -/
theorem Effects.discardFrame (s : State) (p : PortNo) : Effects s (s.discardFrame p) := by
  unfold State.discardFrame
  dsimp only
  split
  · rename_i hr
    have hb : (s.port p).state ≠ .blocked := by
      intro e
      simp [State.receives, e] at hr
    split
    · rename_i hn
      have hcount : (s.port p).CountSound → (s.port p).badCount + 1 = badLimit := fun hc => by
        have := hc.le
        have := mt hc.blocked.1 hb
        omega
      have hsound : ∀ q : Port, q.badCount = (s.port p).badCount + 1 → q.state = .blocked →
          (s.port p).CountSound → q.CountSound := fun q hq hst hc => by
        have := hcount hc
        exact ⟨by omega, by simp [hq, hst, this]⟩
      refine Effects.trans ?_ (Effects.postPeers _ p)
      rw [State.leavePort_setPort s p _ _ (by rfl)]
      unfold State.leavingEffects
      split
      · rw [State.dropHold_dropLock_setPort]
        refine (((Effects.dropLock s p).trans (Effects.dropHold _ p)).trans (Effect.chain ?_)).trans (Effects.dropWash _ p)
        refine Effect.setPort p _ (by simp [State.port_dropHold_dropLock]) ?_
          fun _ => Or.inr (State.dropHold_dropLock_claimless s p)
        rw [State.port_dropHold_dropLock]
        exact hsound _ rfl rfl
      · rename_i ha
        exact (Effect.setPort p _ (by exact Nat.le_refl _) (hsound _ (by rfl) (by rfl)) fun hn => absurd hn ha).chain
    · rename_i hn
      have hlt : (s.port p).badCount + 1 < badLimit := Nat.lt_of_not_le hn
      refine (Effect.setPort p _ (by exact Nat.le_refl _) (fun _ => ⟨by exact Nat.le_of_lt hlt, ?_⟩) (by exact Or.inl)).chain
      exact ⟨fun e => absurd e (Nat.ne_of_lt hlt), fun e => absurd e hb⟩
  · exact Effects.refl s

/-! ### The posture switch (R135, R136) -/

/-- The run-time expiry reads and writes filters and queue alone, of what it does not read the budget among them. -/
theorem State.addReasons_budget (s : State) (f : FilterNo) (new : Reasons) (n : Nat) :
    { s with budget := n }.addReasons f new = { s.addReasons f new with budget := n } := by
  have hfilter : { s with budget := n }.filter f = s.filter f := rfl
  unfold State.addReasons
  rw [hfilter]
  split
  · split <;> rfl
  · dsimp only
    split <;> rfl
  · rfl

theorem State.expireRunTime_budget (s : State) (f : FilterNo) (n : Nat) :
    { s with budget := n }.expireRunTime f = { s.expireRunTime f with budget := n } := by
  unfold State.expireRunTime
  rw [State.addReasons_budget, show State.runTimeDue { s with budget := n } f = s.runTimeDue f from rfl]
  split <;> rfl

theorem State.expireRipening_budget (s : State) (f : FilterNo) (n : Nat) :
    { s with budget := n }.expireRipening f = { s.expireRipening f with budget := n } := by
  unfold State.expireRipening
  rw [show State.ripeningDue { s with budget := n } f = s.ripeningDue f from rfl]
  split
  · unfold State.postOwner
    rw [show State.ownerOf (State.setService { s with budget := n } f (.heldOut .ripenTimeout)) f =
      (s.setService f (.heldOut .ripenTimeout)).ownerOf f from rfl]
    split <;> rfl
  · rfl

theorem State.expireFilters_budget (s : State) (n : Nat) :
    { s with budget := n }.expireFilters = { s.expireFilters with budget := n } := by
  unfold State.expireFilters
  generalize allFilters = l
  induction l generalizing s with
  | nil => rfl
  | cons f l ih => simp only [List.foldl_cons, State.expireRunTime_budget, State.expireRipening_budget, ih]

theorem Effects.expireHold (s : State) : Effects s s.expireHold := by
  unfold State.expireHold
  split
  · split
    · exact (Effects.endHold s).trans (Effects.postTo _ _ _)
    · exact Effects.refl s
  · exact Effects.refl s

theorem Effects.leaveOffline {s : State} (hv : s.validBank s.active = true) : Effects s s.leaveOffline := by
  unfold State.leaveOffline
  split
  · rename_i h
    exact (Effect.setHeader .idle (by rw [h]; rfl) (by rw [h]; rfl) (by simp [h]) fun _ => Or.inr hv).chain
  · exact Effects.refl s

end Sys2Proof.Machine
end

section
/-! PROOFS. The posture switch, the selection and the commands as chains of effects. -/

namespace Sys2Proof.Machine

/-! ### Letters of the present filters -/

/-- The letter of a present filter. -/
def State.letterOf (s : State) (f : FilterNo) : Option Letter := (s.filter f).map Filter.letter

theorem State.letterOf_congr {s t : State} (h : t.filters = s.filters) (f : FilterNo) : t.letterOf f = s.letterOf f := by
  simp [State.letterOf, State.filter_congr h]

@[simp] theorem State.letterOf_setService (s : State) (f g : FilterNo) (v : Service) :
    (s.setService f v).letterOf g = s.letterOf g := by
  unfold State.letterOf State.setService State.mapFilter
  by_cases h : g = f
  · subst h; cases hs : s.filter g <;> simp
  · rw [State.filter_setFilter_ne _ _ h]

@[simp] theorem State.letterOf_enqueue (s : State) (f g : FilterNo) : (s.enqueue f).letterOf g = s.letterOf g := rfl

@[simp] theorem State.letterOf_dequeue (s : State) (f g : FilterNo) : (s.dequeue f).letterOf g = s.letterOf g := rfl

@[simp] theorem State.letterOf_addReasons (s : State) (f g : FilterNo) (new : Reasons) :
    (s.addReasons f new).letterOf g = s.letterOf g := by
  unfold State.addReasons
  split
  · split <;> simp
  · dsimp only
    split <;> simp
  · rfl

@[simp] theorem State.letterOf_expireRunTime (s : State) (f g : FilterNo) :
    (s.expireRunTime f).letterOf g = s.letterOf g := by
  unfold State.expireRunTime
  split <;> simp

@[simp] theorem State.letterOf_expireRipening (s : State) (f g : FilterNo) :
    (s.expireRipening f).letterOf g = s.letterOf g := by
  unfold State.expireRipening
  split
  · rw [State.letterOf_congr (s := s.setService f (.heldOut .ripenTimeout)) (by simp), State.letterOf_setService]
  · rfl

@[simp] theorem State.letterOf_returnToDue (s : State) (f g : FilterNo) (time : Option Nat) :
    (s.returnToDue f time).letterOf g = s.letterOf g := by
  unfold State.returnToDue
  split <;> simp

@[simp] theorem State.letterOf_expireFilters (s : State) (g : FilterNo) : s.expireFilters.letterOf g = s.letterOf g := by
  unfold State.expireFilters
  generalize allFilters = l
  induction l generalizing s with
  | nil => rfl
  | cons f l ih => simp [ih]

/-! ### The take of a switch -/

theorem State.carrySwitch_eq (s : State) (b : BankId) :
    s.carrySwitch b =
      ((((State.expireFilters { s with
        active := b, switch := none, budget := min s.budget (s.bank b).runLength }).expireHold).expireGap).postAttached
          (.posture (.bank b))).leaveOffline := by
  have hb : (State.expireFilters { s with active := b, switch := none }).activeBank = s.bank b :=
    State.activeBank_congr (s := { s with active := b, switch := none }) (by simp) (by simp) (by simp)
  unfold State.carrySwitch State.clipBudget
  rw [State.expireFilters_budget { s with active := b, switch := none }]
  simp [hb]

theorem Effects.carrySwitch {s : State} {b : BankId} (hv : s.validBank b = true) : Effects s (s.carrySwitch b) := by
  rw [State.carrySwitch_eq]
  generalize ht : ({ s with active := b, switch := none, budget := min s.budget (s.bank b).runLength } : State) = t
  have hst : Effects s t := ht ▸ (Effect.activate b hv).chain
  have htv : t.validBank b = true :=
    (State.validBank_congr (by rw [← ht]) (by rw [← ht]) (by rw [← ht]) (by rw [← ht]) b).trans hv
  have hta : t.active = b := by rw [← ht]
  refine ((((hst.trans (Effects.expireFilters t)).trans (Effects.expireHold _)).trans (Effects.expireGap _)).trans
    (Effects.postAttached _ _)).trans (Effects.leaveOffline ?_)
  rw [State.validBank_of_letters (s := t) (fun f => ?_) (by simp) (by simp) (by simp)]
  · simpa [hta] using htv
  · exact (State.letterOf_congr (s := t.expireFilters) (by simp) f).trans (State.letterOf_expireFilters t f)

theorem Effects.takeSwitch (s : State) : Effects s s.takeSwitch := by
  unfold State.takeSwitch
  split
  · split
    · split
      · rename_i hv
        exact Effects.carrySwitch hv
      · exact (Effects.setSwitch (by simp)).trans (Effects.postAttached _ _)
    · exact Effects.refl s
  · exact Effects.refl s

/-! ### The selection, and what follows at once -/

theorem Effects.breakHold (s : State) : Effects s s.breakHold := by
  unfold State.breakHold
  split
  · split
    · exact (Effects.endHold s).trans (Effects.postTo _ _ _)
    · exact Effects.refl s
  · exact Effects.refl s

theorem Effects.trySelect {s : State} (h : s.header = .idle) : Effects s s.trySelect := by
  unfold State.trySelect
  split
  · rename_i f hc
    split
    · rename_i r hr
      split
      · exact (Effect.select f r h hc hr).chain
      · exact Effects.refl s
    · exact Effects.refl s
  · exact Effects.refl s

theorem Header.isIdle_iff {h : Header} : h.isIdle = true ↔ h = .idle := by
  cases h <;> simp [Header.isIdle]

theorem State.idle_of_guardHolds {s : State} (h : s.guardHolds = true) : s.header = .idle := by
  simp only [State.guardHolds, Bool.and_eq_true] at h
  exact Header.isIdle_iff.1 h.1.1

theorem Effects.evaluate (s : State) : Effects s s.evaluate := by
  unfold State.evaluate
  split
  · rename_i h
    exact (Effects.breakHold s).trans (Effects.trySelect (by simpa using State.idle_of_guardHolds h))
  · exact Effects.refl s

theorem Effects.expireZeroGap (s : State) : Effects s s.expireZeroGap := by
  unfold State.expireZeroGap
  split
  · exact Effects.expireGap s
  · exact Effects.refl s

theorem Effects.atOnce (s : State) : Effects s s.atOnce :=
  ((Effects.takeSwitch s).trans (Effects.expireZeroGap _)).trans (Effects.evaluate _)

/-! ### The passing of time -/

@[simp] theorem State.tick_frame (s : State) :
    s.tick.pending = s.pending ∧ s.tick.phase = s.phase ∧ s.tick.rate = s.rate ∧ s.tick.ports = s.ports ∧
    s.tick.filters = s.filters ∧ s.tick.queue = s.queue ∧ s.tick.holder = s.holder ∧ s.tick.budget = s.budget ∧
    s.tick.hold = s.hold ∧ s.tick.holdFlags = s.holdFlags ∧ s.tick.outputs = s.outputs ∧ s.tick.pumpPair = s.pumpPair ∧
    s.tick.blowerPair = s.blowerPair ∧ s.tick.volume = s.volume ∧ s.tick.normal = s.normal ∧ s.tick.storm = s.storm ∧
    s.tick.active = s.active ∧ s.tick.plant = s.plant ∧ s.tick.lock = s.lock ∧ s.tick.switch = s.switch ∧
    s.tick.image = s.image ∧ s.tick.history = s.history ∧ s.tick.nextSeq = s.nextSeq := by
  have hclock : ∀ t : State, t.advanceClock = { t with clock := t.advanceClock.clock, draws := t.advanceClock.draws } := by
    intro t
    unfold State.advanceClock
    split <;> rfl
  have hsecond : ∀ t : State, t.stepSecond = t.withHeader t.stepSecond.header := by
    intro t
    unfold State.stepSecond
    (repeat' split) <;> rfl
  unfold State.tick State.newSecond
  dsimp only
  split
  · simp [State.runInputs, State.ageStore]
  · rw [hsecond, hclock]
    simp [State.openAccrual, State.runInputs, State.ageStore]

/-! ### Changes of latches -/

/-- From `s` to `t` no port changes but in its latches. -/
def State.LatchesOnly (s t : State) : Prop := ∀ i, ∃ l, t.port i = { s.port i with latches := l }

theorem State.LatchesOnly.of_ports {s t : State} (h : t.ports = s.ports) : s.LatchesOnly t := fun i =>
  ⟨(s.port i).latches, by simp [State.port, h]⟩

theorem State.LatchesOnly.trans {s t u : State} (h : s.LatchesOnly t) (h' : t.LatchesOnly u) : s.LatchesOnly u := fun i => by
  obtain ⟨l, hl⟩ := h i
  obtain ⟨m, hm⟩ := h' i
  exact ⟨m, by rw [hm, hl]⟩

theorem State.latchesOnly_postTo (s : State) (p : PortNo) (n : Notice) : s.LatchesOnly (s.postTo p n) := fun i => by
  rw [State.port_postTo]
  split
  · rename_i h
    exact ⟨(s.port p).latches.post n, by rw [h]; rfl⟩
  · exact ⟨_, rfl⟩

theorem State.latchesOnly_passTenure (s : State) (p : PortNo) : s.LatchesOnly (s.passTenure p) := by
  unfold State.passTenure
  dsimp only
  have hgained : s.LatchesOnly ({ s with holder := some p, budget := s.activeBank.runLength - 1 }.postTo p (.tenure .gained)) :=
    (State.LatchesOnly.of_ports rfl).trans (State.latchesOnly_postTo _ _ _)
  generalize ({ s with holder := some p, budget := s.activeBank.runLength - 1 }.postTo p (.tenure .gained) : State) = t at *
  have hlost : s.LatchesOnly (match s.holder with | some old => t.postTo old (.tenure .lost) | none => t) := by
    split
    · exact hgained.trans (State.latchesOnly_postTo _ _ _)
    · exact hgained
  split
  · exact (hlost.trans (State.LatchesOnly.of_ports (by rfl))).trans (State.latchesOnly_postTo _ _ _)
  · exact hlost

theorem State.latchesOnly_select (s : State) (f : FilterNo) (r : Filter) : s.LatchesOnly (s.select f r) := by
  unfold State.select State.updateTenure
  dsimp only
  refine State.LatchesOnly.trans ?_ (State.latchesOnly_postTo _ _ _)
  have hcall : s.LatchesOnly (s.callFilter f) := State.LatchesOnly.of_ports (by simp)
  split
  · split <;> exact hcall.trans (State.LatchesOnly.of_ports rfl)
  · exact (hcall.trans (State.latchesOnly_passTenure _ _)).trans (State.LatchesOnly.of_ports rfl)

/-- What an effect does to the ports: it changes latches alone, or one port without a reply more, or starts them all. -/
theorem Effect.ports {s t : State} (h : Effect s t) :
    s.LatchesOnly t ∨ (∃ p q, t = s.setPort p q ∧ q.replies.length ≤ (s.port p).replies.length ∧
      ((s.port p).CountSound → q.CountSound)) ∨ ∀ p, t.port p = Port.start := by
  cases h with
  | restart => exact .inr (.inr fun p => by simp [State.port, State.restart, State.reset])
  | completeLoad =>
    exact .inr (.inr fun p => by simp [State.port, State.completeLoad, State.withHeader, State.startUp, State.reset])
  | setPort p q replies count => exact .inr (.inl ⟨p, q, rfl, replies, count⟩)
  | postAttached n =>
    refine .inl fun i => ?_
    rw [State.port_postAttached]
    split
    · exact ⟨_, rfl⟩
    · exact ⟨_, rfl⟩
  | postPeers q =>
    refine .inl fun i => ?_
    rw [State.port_postPeers]
    split
    · exact ⟨_, rfl⟩
    · exact ⟨_, rfl⟩
  | select f r => exact .inl (State.latchesOnly_select s f r)
  | _ => exact .inl (State.LatchesOnly.of_ports (by simp))

/-- A chain of effects never adds to a reply queue. -/
theorem Effects.replies_le {s t : State} (h : Effects s t) (p : PortNo) :
    (t.port p).replies.length ≤ (s.port p).replies.length := by
  induction h with
  | refl => exact Nat.le_refl _
  | tail _ hstep ih =>
    refine Nat.le_trans ?_ ih
    rcases hstep.ports with hl | ⟨i, q, rfl, hq, -⟩ | hs
    · obtain ⟨l, hl⟩ := hl p
      rw [hl]
    · by_cases hp : p = i
      · subst hp; simpa using hq
      · rw [State.port_setPort_ne _ _ hp]
    · simp [hs, Port.start]

theorem Effects.room {s t : State} (h : Effects s t) {p : PortNo} (hr : s.repliesFull p = false) :
    t.repliesFull p = false := by
  have := h.replies_le p
  simp only [State.repliesFull, decide_eq_false_iff_not] at hr ⊢
  omega

end Sys2Proof.Machine
end

section
/-! PROOFS. Every command and the passing of time as chains of effects. -/

namespace Sys2Proof.Machine

/-! ### Requests (R151, R152) -/

/-- What is accepted meets `P`. -/
def Verdict.After (P : State → Prop) : Verdict → Prop
  | .refuse _ => True
  | .accept t _ => P t

theorem Effects.settle {s : State} {v : Verdict} (h : v.After (Effects s)) : Effects s (v.settle s).1 := by
  cases v with
  | refuse code => exact Effects.refl s
  | accept t d => exact h

theorem Verdict.After.ownFilter {P : State → Prop} {s : State} {p : PortNo} {n : Nat} {act : FilterNo → Filter → Verdict}
    (h : ∀ f r, s.filter f = some r → (act f r).After P) : (s.ownFilter p n act).After P := by
  unfold State.ownFilter
  split
  · trivial
  · split
    · trivial
    · rename_i r hr
      split
      · exact h _ r hr
      · trivial

theorem PortState.isAttached_of_takes {st : PortState} {kind : Nat} (h : st.takes kind = true) (hk : 2 < kind) :
    st.isAttached = true := by
  have h1 : kind ≠ 1 := by omega
  have h2 : kind ≠ 2 := by omega
  cases st <;> simp_all [PortState.takes, PortState.isAttached]

theorem PortState.not_blocked_of_takes {st : PortState} {kind : Nat} (h : st.takes kind = true) : st ≠ .blocked := by
  rintro rfl
  cases h

/-- A request is a good frame, then its block's effects, then a reply where there is room. -/
theorem StepEffects.request (s : State) (p : PortNo) (kind tag : Nat) (form : Bool) {act : State → State × Answer}
    (h : ∀ t, (t.port p).state.takes kind = true → Effects t (act t).1) : StepEffects s (s.request p kind tag form act) := by
  by_cases ht : s.takesFrame p = true
  · have hgood := Effects.goodFrame (State.not_blocked_of_takesFrame ht)
    unfold State.request
    rw [if_pos ht]
    generalize s.goodFrame p = t at hgood ⊢
    dsimp only
    split
    · exact hgood.step
    · rename_i hfull
      have hroom : t.repliesFull p = false := by simpa using hfull
      refine hgood.step.trans ?_
      split
      · exact StepEffects.reply _ hroom
      · rename_i hn
        have htakes : (t.port p).state.takes kind = true := by
          by_contra hc
          simp only [State.portRefusal] at hn
          split at hn <;> simp_all
        exact (h t htakes).step.trans (StepEffects.reply _ ((h t htakes).room hroom))
  · simp only [State.request, ht]
    exact StepEffects.refl s

theorem StepEffects.handle (s : State) (p : PortNo) (kind tag : Nat) (form : Bool) {act : State → Verdict}
    (h : ∀ t, (t.port p).state.takes kind = true → (act t).After (Effects t)) :
    StepEffects s (s.handle p kind tag form act) :=
  StepEffects.request s p kind tag form fun t ht => Effects.settle (h t ht)

/-- A request that its block always accepts. -/
theorem StepEffects.accept (s : State) (p : PortNo) (kind tag : Nat) (form : Bool) {act : State → State}
    {data : State → ReplyData} (h : ∀ t, (t.port p).state.takes kind = true → Effects t (act t)) :
    StepEffects s (s.handle p kind tag form fun t => .accept (act t) (data t)) :=
  StepEffects.handle s p kind tag form h

theorem StepEffects.read (s : State) (p : PortNo) (tag : Nat) (view : State → Except RefusalCode ReplyData) :
    StepEffects s (s.read p tag view) :=
  StepEffects.handle s p _ tag true fun t _ => by
    split
    · exact Effects.refl t
    · trivial

/-- A lock-covered request of an attached port (R127). -/
theorem Effects.lockCovered {t : State} {p : PortNo} {act : State → Verdict} (ha : (t.port p).state.isAttached = true)
    (h : ∀ u, (act u).After (Effects u)) : Effects t (State.lockCovered p act t).1 := by
  unfold State.lockCovered
  split
  · exact Effects.refl t
  · rename_i l _
    split
    · rename_i hl
      exact (Effects.setLock fun x hx => by cases hx; exact hl ▸ ha).trans (Effects.settle (h _))
    · exact Effects.refl t

theorem StepEffects.covered (s : State) (p : PortNo) {kind : Nat} (tag : Nat) {act : State → Verdict} (hk : 2 < kind)
    (h : ∀ u, (act u).After (Effects u)) : StepEffects s (s.request p kind tag true (State.lockCovered p act)) :=
  StepEffects.request s p kind tag true fun _ ht => Effects.lockCovered (PortState.isAttached_of_takes ht hk) h

/-! ### Requests of the ports -/

theorem Effects.attachPort {s : State} {p : PortNo} (name : List Nat) (h : (s.port p).state ≠ .blocked) :
    Effects s (s.attachPort p name) := by
  unfold State.attachPort
  split
  · exact Effects.setPort_of rfl rfl (Nat.le_refl _)
  · rename_i ha
    unfold State.newAttachment
    dsimp only
    refine Effects.trans ?_ (Effects.postPeers _ p)
    have hset : Effects s (s.setPort p { s.port p with
        state := .attached, name := some name, lastGood := s.clock, mask := 0 }) :=
      (Effect.setPort p _ (by exact Nat.le_refl _)
        (by exact fun hc => ⟨hc.le, (hc.withState (st := .attached) h (by simp)).blocked⟩) fun hn => absurd hn ha).chain
    split
    · exact hset.trans (Effects.postTo _ _ _)
    · exact hset

theorem Effects.detachPort {s : State} {p : PortNo} (h : (s.port p).state ≠ .blocked) : Effects s (s.detachPort p) := by
  have hleave : Effects s (s.leavePort p .detached) := Effects.leavePort fun hc => hc.withState h (by simp)
  unfold State.detachPort
  generalize s.leavePort p .detached = t at hleave ⊢
  refine (hleave.trans ?_).trans (Effects.postPeers _ p)
  exact Effects.setPort_of rfl rfl (Nat.le_refl _)

theorem Port.fetch_frame (q : Port) (mask : Option Nat) :
    (q.fetch mask).1.state = q.state ∧ (q.fetch mask).1.badCount = q.badCount ∧ (q.fetch mask).1.replies = q.replies := by
  unfold Port.fetch
  dsimp only
  split <;> simp

theorem Effects.fetch (s : State) (p : PortNo) (mask : Option Nat) :
    Effects s (s.setPort p ((s.port p).fetch mask).1) := by
  obtain ⟨hs, hc, hr⟩ := (s.port p).fetch_frame mask
  exact Effects.setPort_of hs hc (Nat.le_of_eq (congrArg List.length hr))

/-! ### Requests of the Filter Table -/

theorem Effects.takeEntry (s : State) (e : ConditionEntry) : Effects s (s.takeEntry e) := by
  unfold State.takeEntry
  split
  · refine Effects.trans (Effects.mapFilter ?_ ?_) (Effects.addReasons _ _ _)
    · exact fun _ _ => rfl
    · exact fun _ => rfl
  · exact Effects.refl s

theorem Effects.takeEntries (s : State) (entries : List ConditionEntry) : Effects s (entries.foldl State.takeEntry s) := by
  induction entries generalizing s with
  | nil => exact Effects.refl s
  | cons e es ih => exact (Effects.takeEntry s e).trans (ih _)

theorem Effects.washRequest {s : State} (f : FilterNo) (r : Filter) (cls : Nat) :
    (s.washRequest f r cls).After (Effects s) := by
  unfold State.washRequest
  cases r.service with
  | inService _ => cases classOf cls with
    | some c => exact Effects.addReasons _ _ _
    | none => trivial
  | due _ _ => cases classOf cls with
    | some c => exact Effects.addReasons _ _ _
    | none => trivial
  | _ => trivial

theorem State.place_of_filter {s : State} {f : FilterNo} {r : Filter} (h : s.filter f = some r) :
    s.place f = r.service.place := by simp [State.place, h]

theorem Effects.leaveQueue {s : State} {f : FilterNo} {r : Filter} {v : Service} (hr : s.filter f = some r)
    (hold : ∀ x, r.service.place = some x → ∃ d, x = .due d) (hv : v.place = none) :
    Effects s ((s.setService f v).dequeue f) :=
  (Effect.leaveQueue f v (by rwa [State.place_of_filter hr]) hv).chain

theorem Effects.withdraw {s : State} {f : FilterNo} {r : Filter} (hr : s.filter f = some r) :
    (s.withdraw f r).After (Effects s) := by
  unfold State.withdraw
  split
  · rename_i d start hs
    exact (Effects.leaveQueue hr (by simp [hs, Service.place]) rfl).trans (Effects.expireRunTime _ _)
  all_goals trivial

theorem Effects.holdOut {s : State} {f : FilterNo} {r : Filter} (forced : Bool) (hr : s.filter f = some r) :
    (s.holdOut f r forced).After (Effects s) := by
  have hout : (∀ x, r.service.place = some x → ∃ d, x = .due d) →
      Effects s ((s.setService f (.heldOut (if forced then .stationForced else .station))).dequeue f) :=
    fun h => Effects.leaveQueue hr h rfl
  unfold State.holdOut
  dsimp only
  split <;> rename_i hs <;> try trivial
  · split
    · exact hout (by simp [hs, Service.place])
    · trivial
  · split
    · exact hout (by simp [hs, Service.place])
    · trivial
  · exact hout (by simp [hs, Service.place])
  · exact hout (by simp [hs, Service.place])

theorem Effects.enterService {s : State} {f : FilterNo} {r : Filter} (hr : s.filter f = some r)
    (hp : r.service.place = none) : Effects s (s.enterService f) :=
  Effects.mapFilter (fun x hx => by rw [hr] at hx; cases hx; exact hp.symm) fun _ => rfl

theorem Effects.release {s : State} {f : FilterNo} {r : Filter} (hr : s.filter f = some r) :
    (s.release f r).After (Effects s) := by
  unfold State.release
  split
  · rename_i hs
    exact Effects.enterService hr (by rw [hs]; rfl)
  all_goals trivial

theorem Effects.returnFilter {s : State} {f : FilterNo} {r : Filter} (hr : s.filter f = some r) :
    (s.returnFilter f r).After (Effects s) := by
  unfold State.returnFilter
  split
  · rename_i hs
    split
    · exact Effects.enterService hr (by rw [hs]; rfl)
    · trivial
  all_goals trivial

theorem Effects.applyDeclared {s : State} {f : FilterNo} {r : Filter} (hours : Nat) (d : Declared)
    (hr : s.filter f = some r) (hs : r.service = .unknown) : Effects s (s.applyDeclared f hours d) := by
  have hp : s.place f = none := by rw [State.place_of_filter hr, hs]; rfl
  cases d with
  | inService => exact (Effects.setService rfl hp).trans (Effects.expireRunTime _ _)
  | heldOut => exact Effects.setService rfl hp
  | needsWash =>
    exact (Effect.enterQueue f _ _ (by rw [hr]; rfl) hp ⟨rfl, rfl⟩).chain.trans (Effects.expireRunTime _ _)

theorem Effects.reconcile {s : State} {f : FilterNo} {r : Filter} (declared hours : Nat) (hr : s.filter f = some r) :
    (s.reconcile f r declared hours).After (Effects s) := by
  unfold State.reconcile
  split
  · rename_i hs
    split
    · split
      · exact Effects.applyDeclared hours _ hr hs
      · trivial
    · trivial
  all_goals trivial

/-! ### Requests of the Wash Unit -/

/-- A step that becomes due sets the header itself, whatever it was. -/
theorem State.stepDue_withHeader (s : State) (h : Header) (w : Wash) (time n : Nat) (st : Step) :
    (s.withHeader h).stepDue w time n st = s.stepDue w time n st := rfl

theorem Effects.isolate {s : State} {w : Wash} {d : Due} {start : Int} (hh : s.header = .calling w)
    (hs : (s.filter w.filter).map Filter.service = some (.called d start)) : Effects s (s.isolate w d start) := by
  unfold State.isolate
  split
  · rename_i st hst
    rw [← State.stepDue_withHeader _ (.gated w ⟨s.clock, 1, 0, false⟩ s.clock)]
    exact (Effect.isolate w d start _ _ hh hs).chain.trans (Effects.stepDue (v := w) rfl rfl hst)
  · exact Effects.refl s

theorem Effects.isolated {s : State} {f : FilterNo} {r : Filter} (hr : s.filter f = some r) :
    (s.isolated f r).After (Effects s) := by
  unfold State.isolated
  split
  · rename_i d start w hs hh
    split
    · rename_i hf
      exact Effects.isolate hh (by simp [hf, hr, hs])
    · trivial
  · trivial

theorem Effects.decline {s : State} (f : FilterNo) (r : Filter) : (s.decline f r).After (Effects s) := by
  unfold State.decline
  split
  · rename_i hh
    split
    · exact Effects.endCall _ hh
    · trivial
  · trivial

theorem Effects.proceed {s : State} (f : FilterNo) (x : Filter) (step : Nat) : (s.proceed f x step).After (Effects s) := by
  unfold State.proceed
  split
  · rename_i w r since _ hh
    split
    · trivial
    · split
      · unfold State.proceedGate
        split
        · rename_i st hst
          exact Effects.beginStep (v := w) (by rw [hh]; rfl) rfl hst
        · exact Effects.refl s
      · trivial
  · trivial

theorem Effects.abandon {s : State} (f : FilterNo) (x : Filter) : (s.abandon f x).After (Effects s) := by
  unfold State.abandon
  split
  · split
    · exact Effects.abort _ _
    · trivial
  · trivial

/-! ### Requests of the Selection Unit and the Basin Account -/

theorem Effects.holdHeader {s : State} {p : PortNo} (ha : (s.port p).state.isAttached = true) :
    (s.holdHeader p).After (Effects s) := by
  unfold State.holdHeader
  split
  · rename_i hp
    split
    · exact Effects.refl s
    · exact Effects.setHold (flags := s.holdFlags) (fun h hh => by cases hh; exact .inr ⟨hp, ha⟩) fun _ => Or.inl
  · rename_i hp
    refine Effects.setHold (x := s.hold) (fun h hh => .inl hh) fun q hq => ?_
    rw [ByPort.get_set_eq] at hq
    split at hq
    · rename_i e
      exact .inr ⟨e ▸ hp, e ▸ ha⟩
    · exact .inl hq

theorem Effects.declareBasin (s : State) (litres : Nat) : (s.declareBasin litres).After (Effects s) := by
  unfold State.declareBasin
  split
  · trivial
  · rename_i hc
    split
    · exact Effects.setVolume (Nat.le_of_not_lt hc)
    · trivial

/-! ### Requests of the Policy Store -/

theorem Effects.takeLock {s : State} {p : PortNo} (ha : (s.port p).state.isAttached = true) :
    (s.takeLock p).After (Effects s) := by
  have hset : Effects s { s with lock := some ⟨p, s.clock⟩ } := Effects.setLock fun x hx => by cases hx; exact ha
  unfold State.takeLock
  split
  · exact hset
  · split
    · exact hset
    · trivial

theorem Effects.unlock (s : State) (p : PortNo) : (s.unlock p).After (Effects s) := by
  unfold State.unlock
  split
  · exact Effects.setLock (by simp)
  · trivial

theorem Effects.standbyBank {s : State} {bank : Nat} {act : BankId → Verdict}
    (h : ∀ b, b ≠ s.active → (act b).After (Effects s)) : (s.standbyBank bank act).After (Effects s) := by
  unfold State.standbyBank
  split
  · trivial
  · split
    · trivial
    · rename_i hb
      split
      · trivial
      · exact h _ hb

theorem Effects.writeItem {s : State} {b : BankId} (item value : Nat) (hb : b ≠ s.active) :
    (s.writeItem item value b).After (Effects s) := by
  unfold State.writeItem
  split
  · split
    · exact (Effect.setBank _ b hb).chain
    · trivial
  · trivial

theorem Effects.writeStep {s : State} {b : BankId} (letter index : Nat) (record : StepRecord) (hb : b ≠ s.active) :
    (s.writeStep letter index record b).After (Effects s) := by
  unfold State.writeStep
  split
  · trivial
  · dsimp only
    split
    · split
      · trivial
      · split
        · exact (Effect.setBank _ b hb).chain
        · trivial
    · trivial

theorem Effects.truncateRecipe {s : State} {b : BankId} (letter count : Nat) (hb : b ≠ s.active) :
    (s.truncateRecipe letter count b).After (Effects s) := by
  unfold State.truncateRecipe
  split
  · trivial
  · dsimp only
    split
    · exact (Effect.setBank _ b hb).chain
    · trivial

/-- What ASSIGN may change has no place in the rotation, before and after it (R2). -/
theorem place_assignedRecord {old : Option Filter} (entry : Option Assignment)
    (h : (old.all fun r => r.service.isAssignable) = true) :
    ((assignedRecord old entry).bind fun r => r.service.place) = none ∧ (old.bind fun r => r.service.place) = none := by
  cases old with
  | none => cases entry <;> exact ⟨rfl, rfl⟩
  | some r =>
    have hp : r.service.place = none := by
      cases hs : r.service <;> simp_all [Service.isAssignable, Service.place]
    cases entry with
    | none => exact ⟨rfl, hp⟩
    | some a => exact ⟨hp, hp⟩

theorem Effects.assign {s : State} (f : FilterNo) (present owner letter : Nat) :
    (s.assign f present owner letter).After (Effects s) := by
  unfold State.assign
  split
  · trivial
  · rename_i entry _
    split
    · rename_i ha
      obtain ⟨hnew, hold⟩ := place_assignedRecord entry ha
      split
      · trivial
      · rename_i hb
        have hset : Effects s (s.setFilter f (assignedRecord (s.filter f) entry)) :=
          (Effect.setFilter f _ (hnew.trans hold.symm) (by simpa using hb)).chain
        unfold Verdict.After State.applyAssign
        dsimp only
        split
        · exact hset.trans (Effects.postTo _ _ _)
        · exact hset
    · trivial

theorem Plant.setValue_capacity (plant : Plant) (v : Nat) {x : Setting} (h : x ≠ .capacity) :
    (plant.setValue v x).capacity = plant.capacity := by
  cases x <;> first | rfl | exact absurd rfl h

/-- A setting other than the capacity leaves the volume under it. -/
theorem Effects.setPlant {s : State} {v : Nat} {x : Setting} (h : x ≠ .capacity)
    (hb : s.breaksActive { s with plant := s.plant.setValue v x } = false) :
    Effects s { s with plant := s.plant.setValue v x } :=
  (Effect.setPlant (s.plant.setValue v x) s.volume (fun hv => by rwa [Plant.setValue_capacity _ _ h]) hb).chain

theorem Effects.cancelLineSwitch (s : State) : Effects s s.cancelLineSwitch := by
  unfold State.cancelLineSwitch
  split
  · exact Effects.setSwitch (by simp)
  · exact Effects.refl s

theorem Effects.writePlant {s : State} (setting input value : Nat) :
    (s.writePlant setting input value).After (Effects s) := by
  unfold State.writePlant
  split
  · trivial
  · rename_i x _
    dsimp only
    split
    · trivial
    · split
      · trivial
      · rename_i hb
        have hb' : s.breaksActive { s with plant := s.plant.setValue value x } = false := by simpa using hb
        cases x with
        | capacity => exact (Effect.setPlant _ _ (fun _ => Nat.min_le_right _ _) hb').chain
        | returnRate => exact Effects.setPlant (by simp) hb'
        | quietTime => exact (Effects.setPlant (by simp) hb').trans (Effects.applyTimesAll _)
        | lostTime => exact (Effects.setPlant (by simp) hb').trans (Effects.applyTimesAll _)
        | polarity i => exact (Effects.setPlant (by simp) hb').trans (Effects.qualify _ i)
        | qualify i => exact (Effects.setPlant (by simp) hb').trans (Effects.qualify _ i)
        | stormEnable =>
          refine (Effects.setPlant (by simp) hb').trans ?_
          unfold State.applySetting
          dsimp only
          split
          · split
            · exact Effects.refl _
            · exact Effects.stormActs _
          · exact Effects.cancelLineSwitch _

theorem Effects.requestSwitch (s : State) (target : Nat) : (s.requestSwitch target).After (Effects s) := by
  unfold State.requestSwitch
  split
  · trivial
  · split
    · exact Effects.setSwitch (by simp)
    · rename_i b _ hb
      split
      · exact Effects.setSwitch fun y hy => .inr (by cases hy; exact BankId.eq_other hb)
      · trivial

theorem Effects.beginStore (s : State) (p : PortNo) : (s.beginStore p).After (Effects s) := by
  unfold State.beginStore
  split
  · trivial
  · exact (Effect.setStore (some ⟨p, s.liveContent, 0⟩) { s.image with valid := false } fun _ => rfl).chain

/-! ### Every request -/

theorem StepEffects.condition (p : PortNo) (tag : Nat) (entries : List ConditionEntry) (s : State) :
    StepEffects s (evCondition p tag entries s) := by
  unfold evCondition
  refine StepEffects.handle s p 5 tag _ fun t _ => ?_
  split
  · trivial
  · exact Effects.takeEntries t entries

theorem StepEffects.assign (p : PortNo) (tag n present owner letter : Nat) (s : State) :
    StepEffects s (evAssign p tag n present owner letter s) := by
  unfold evAssign
  refine StepEffects.request s p 24 tag _ fun t ht => ?_
  split
  · exact Effects.refl t
  · exact Effects.lockCovered (PortState.isAttached_of_takes ht (by omega)) fun u => Effects.assign _ present owner letter

theorem StepEffects.unknownRequestKind (p : PortNo) (tag kind view : Nat) (s : State) :
    StepEffects s (evUnknownRequestKind p tag kind view s) := by
  unfold evUnknownRequestKind
  split
  · exact StepEffects.request s p kind tag false fun t _ => Effects.refl t
  · exact StepEffects.refl s

/-- The event of every request is a chain of effects and replies. -/
theorem StepEffects.of_requestEvent (i : Instr) (s : State) : StepEffects s (requestEvent i s) := by
  have hatt : ∀ {t : State} {p : PortNo} {kind : Nat}, (t.port p).state.takes kind = true → 2 < kind →
      (t.port p).state.isAttached = true := fun h hk => PortState.isAttached_of_takes h hk
  cases i with
  | attach p tag revision name =>
    exact StepEffects.accept (data := fun _ => .attach p) s p 1 tag _ fun t ht => Effects.attachPort name (PortState.not_blocked_of_takes ht)
  | detach p tag => exact StepEffects.accept (data := fun _ => .none) s p 2 tag _ fun t ht => Effects.detachPort (PortState.not_blocked_of_takes ht)
  | readFilter p tag | readQueue p tag | readPolicy p tag | readRecipe p tag | readPlant p tag | readAssign p tag
  | readHistory p tag | readPorts p tag => exact StepEffects.read s p tag _
  | readHeader p tag => exact StepEffects.read s p tag viewHeader
  | readBasin p tag => exact StepEffects.read s p tag viewBasin
  | readClock p tag => exact StepEffects.read s p tag viewClock
  | attention p tag mask => exact StepEffects.accept (data := fun t => ((t.port p).fetch mask).2) s p 4 tag _ fun t _ => Effects.fetch t p mask
  | condition p tag entries => exact StepEffects.condition p tag entries s
  | washRequest p tag n cls =>
    exact StepEffects.handle s p 6 tag _ fun t _ => .ownFilter fun f r _ => Effects.washRequest f r cls
  | withdraw p tag n => exact StepEffects.handle s p 7 tag _ fun t _ => .ownFilter fun f r hr => Effects.withdraw hr
  | holdOut p tag n forced =>
    exact StepEffects.handle s p 13 tag _ fun t _ => .ownFilter fun f r hr => Effects.holdOut _ hr
  | release p tag n => exact StepEffects.handle s p 14 tag _ fun t _ => .ownFilter fun f r hr => Effects.release hr
  | returnFilter p tag n =>
    exact StepEffects.handle s p 12 tag _ fun t _ => .ownFilter fun f r hr => Effects.returnFilter hr
  | reconcile p tag n declared hours =>
    exact StepEffects.handle s p 15 tag _ fun t _ => .ownFilter fun f r hr => Effects.reconcile declared hours hr
  | isolated p tag n => exact StepEffects.handle s p 8 tag _ fun t _ => .ownFilter fun f r hr => Effects.isolated hr
  | decline p tag n => exact StepEffects.handle s p 9 tag _ fun t _ => .ownFilter fun f r _ => Effects.decline f r
  | proceed p tag n step =>
    exact StepEffects.handle s p 10 tag _ fun t _ => .ownFilter fun f r _ => Effects.proceed f r step
  | abandon p tag n => exact StepEffects.handle s p 11 tag _ fun t _ => .ownFilter fun f r _ => Effects.abandon f r
  | holdHeader p tag => exact StepEffects.handle s p 16 tag _ fun t ht => Effects.holdHeader (hatt ht (by omega))
  | releaseHold p tag => exact StepEffects.accept (data := fun _ => .none) s p 17 tag _ fun t _ => Effects.dropHold t p
  | basinDeclare p tag litres => exact StepEffects.handle s p 18 tag _ fun t _ => Effects.declareBasin t litres
  | policyLock p tag => exact StepEffects.handle s p 19 tag _ fun t ht => Effects.takeLock (hatt ht (by omega))
  | policyUnlock p tag => exact StepEffects.handle s p 20 tag _ fun t _ => Effects.unlock t p
  | policyWrite p tag bank item value =>
    exact StepEffects.covered s p tag (by omega) fun u => Effects.standbyBank fun b hb => Effects.writeItem item value hb
  | recipeWrite p tag bank letter index record =>
    exact StepEffects.covered s p tag (by omega) fun u => Effects.standbyBank fun b hb =>
      Effects.writeStep letter index record hb
  | recipeTruncate p tag bank letter count =>
    exact StepEffects.covered s p tag (by omega) fun u => Effects.standbyBank fun b hb =>
      Effects.truncateRecipe letter count hb
  | assign p tag n present owner letter => exact StepEffects.assign p tag n present owner letter s
  | plantWrite p tag setting input value =>
    exact StepEffects.covered s p tag (by omega) fun u => Effects.writePlant setting input value
  | postureSwitch p tag target => exact StepEffects.covered s p tag (by omega) fun u => Effects.requestSwitch u target
  | store p tag => exact StepEffects.covered s p tag (by omega) fun u => Effects.beginStore u p
  | unknownRequestKind p tag kind view => exact StepEffects.unknownRequestKind p tag kind view s
  | _ => exact StepEffects.refl s

/-! ### The other commands -/

theorem Effects.lapse {s : State} {w : Wash} (h : s.header = .calling w) : Effects s (s.lapse w) := by
  unfold State.lapse
  dsimp only
  have hcount : Effects s (s.mapFilter w.filter fun r => { r with lapses := r.lapses + 1 }) :=
    Effects.mapFilter (fun _ _ => rfl) fun _ => rfl
  refine hcount.trans ?_
  have hh : (s.mapFilter w.filter fun r => { r with lapses := r.lapses + 1 }).header = .calling w := by simpa using h
  generalize (s.mapFilter w.filter fun r => { r with lapses := r.lapses + 1 }) = t at hh ⊢
  split
  · split
    · exact (Effect.holdCalled w .callLapse hh).chain.trans (Effects.postTo _ _ _)
    · exact Effects.endCall none hh
  · exact Effects.refl t

theorem Effects.callWindowExpiry (s : State) : Effects s (evCallWindowExpiry s) := by
  unfold evCallWindowExpiry
  split
  · rename_i h
    split
    · exact Effects.lapse h
    · exact Effects.refl s
  · exact Effects.refl s

theorem Effects.markReached (s : State) : Effects s (evMarkReached s) := by
  unfold evMarkReached
  split
  · rename_i w r h
    split
    · rename_i st hst
      split
      · exact (Effect.drive w w { r with elapsed := r.elapsed + 1, secondDue := false } st _ (by rw [h]; rfl) rfl hst).chain
      · exact Effects.refl s
    · exact Effects.refl s
  · exact Effects.refl s

theorem Effects.stepEnd (s : State) : Effects s (evStepEnd s) := by
  unfold evStepEnd
  split
  · rename_i w r h
    split
    · split
      · rename_i next hn
        exact Effects.stepDue (v := w) (by rw [h]; rfl) rfl hn
      · exact Effects.complete s
    · exact Effects.refl s
  · exact Effects.refl s

theorem Effects.abortWhen (s : State) (c : Bool) (cause : AbortCause) : Effects s (if c then s.abort cause else s) := by
  split
  · exact Effects.abort s cause
  · exact Effects.refl s

theorem Effects.startWindowExpiry (pair : Pair) (s : State) : Effects s (evStartWindowExpiry pair s) := by
  unfold evStartWindowExpiry
  split
  · exact Effects.feedbackFault s
  · exact Effects.refl s

theorem Effects.stopWindowExpiry (pair : Pair) (s : State) : Effects s (evStopWindowExpiry pair s) := by
  unfold evStopWindowExpiry
  split
  · exact (Effects.setPair s _ pair).trans (Effects.overrunReported _)
  · exact Effects.refl s

theorem Effects.inputRawChange (i : Input) (high : Bool) (s : State) : Effects s (evInputRawChange i high s) := by
  unfold evInputRawChange
  split
  · exact (Effects.setInput s i _).trans (Effects.qualify _ i)
  · exact Effects.refl s

theorem Effects.lockExpiry (s : State) : Effects s (evLockExpiry s) := by
  unfold evLockExpiry
  split
  · exact Effects.setLock (by simp)
  · exact Effects.refl s

theorem Effects.quietExpiry (p : PortNo) (s : State) : Effects s (evQuietExpiry p s) := by
  unfold evQuietExpiry
  split
  · rename_i h
    simp only [State.quietDue, Bool.and_eq_true, beq_iff_eq] at h
    exact Effects.quietPort h.1
  · exact Effects.refl s

theorem Effects.lostExpiry (p : PortNo) (s : State) : Effects s (evLostExpiry p s) := by
  unfold evLostExpiry
  split
  · rename_i h
    simp only [State.lostDue, Bool.and_eq_true, beq_iff_eq] at h
    exact Effects.loseAttached (by rw [h.1]; rfl)
  · exact Effects.refl s

theorem Effects.storeComplete (agrees : Bool) (s : State) : Effects s (evStoreComplete agrees s) := by
  unfold evStoreComplete
  split
  · split
    · exact (Effect.setStore none _ (by simp)).chain.trans (Effects.postTo _ _ _)
    · exact Effects.refl s
  · exact Effects.refl s

theorem Effects.setReceiver (s : State) (p : PortNo) (r : Receiver) : Effects s (s.setReceiver p r) :=
  Effects.setPort_of rfl rfl (Nat.le_refl _)

theorem Effects.resyncIdle (p : PortNo) (s : State) : Effects s (evResyncIdle p s) := by
  unfold evResyncIdle
  split
  · exact Effects.setReceiver s p _
  · exact Effects.refl s

theorem Effects.lineBreak (p : PortNo) (s : State) : Effects s (evLineBreak p s) := by
  unfold evLineBreak
  split
  · rename_i h
    refine Effects.trans (Effect.chain ?_) (Effects.postPeers _ p)
    exact Effect.setPort p _ (by exact Nat.le_refl _) (fun _ => ⟨by simp, by simp [badLimit]⟩)
      fun ha => by rw [h] at ha; cases ha
  · exact Effects.discardFrame s p

theorem Effects.requestDiscarded (p : PortNo) (s : State) : Effects s (evRequestDiscarded p s) := by
  unfold evRequestDiscarded
  split
  · rename_i h
    exact Effects.goodFrame (State.not_blocked_of_takesFrame (Bool.and_eq_true_iff.1 h).1)
  · exact Effects.refl s

theorem Effects.replySent (p : PortNo) (s : State) : Effects s (evReplySent p s) := by
  unfold evReplySent
  split
  · rename_i h
    exact Effects.setPort_of rfl rfl (by simp [h])
  · exact Effects.refl s

theorem StepEffects.startByteReceived (p : PortNo) (byte : Byte) (s : State) :
    StepEffects s (evStartByteReceived p byte s) := by
  unfold evStartByteReceived
  split
  · split
    · split
      · exact (Effects.setReceiver s p _).step
      · exact StepEffects.refl s
    · split
      · exact (Effects.setReceiver s p _).step
      · exact (Effects.discardFrame s p).step
      · exact (Effects.discardFrame s p).step
      · unfold frameEvent
        split
        · exact StepEffects.of_requestEvent _ s
        · exact StepEffects.request s p _ _ false fun t _ => Effects.refl t
        · exact StepEffects.of_requestEvent (.unknownRequestKind p _ _ 0) s
    · exact StepEffects.refl s
  · exact StepEffects.refl s

/-! ### Commands -/

theorem StepEffects.event {s : State} {e : State → State} (h : ∀ t, StepEffects t (e t)) : StepEffects s (s.event e) := by
  unfold State.event
  split
  · exact StepEffects.refl s
  · exact (Effects.atOnce s).step.trans (h _)

/-- A request command is the event of its request (log 15). -/
theorem exec_request {i : Instr} (h : (encodeRequest i).isSome = true ∨ ∃ p n k v, i = .unknownRequestKind p n k v)
    (s : State) : exec i s = .next (s.event (requestEvent i)) := by
  rcases h with h | ⟨p, n, k, v, rfl⟩
  · cases i <;> first | rfl | cases h
  · rfl

/-- Every command is a chain of effects and replies. -/
theorem StepEffects.of_exec {i : Instr} {s t : State} (h : exec i s = .next t) : StepEffects s t := by
  have hevent : ∀ e : State → State, (∀ u, Effects u (e u)) → exec i s = .next (s.event e) → StepEffects s t := by
    intro e he hx
    rw [hx] at h
    cases h
    exact StepEffects.event fun u => (he u).step
  by_cases hreq : (encodeRequest i).isSome = true ∨ ∃ p n k v, i = .unknownRequestKind p n k v
  · rw [exec_request hreq] at h
    cases h
    exact StepEffects.event (StepEffects.of_requestEvent i)
  · cases i with
    | reset rate0 rate1 => cases h; exact (Effect.restart rate0 rate1).chain.step
    | imageLoadComplete intact =>
      cases h
      unfold evImageLoadComplete
      split
      · exact (Effect.completeLoad intact).chain.step
      · exact StepEffects.refl s
    | storeComplete agrees => exact hevent _ (Effects.storeComplete agrees) rfl
    | frameDiscard p cause => exact hevent _ (Effects.discardFrame · p) rfl
    | characterGapTimeout p => exact hevent _ (Effects.discardFrame · p) rfl
    | resyncIdle p => exact hevent _ (Effects.resyncIdle p) rfl
    | lineBreak p => exact hevent _ (Effects.lineBreak p) rfl
    | requestDiscardedQueueFull p => exact hevent _ (Effects.requestDiscarded p) rfl
    | replySent p => exact hevent _ (Effects.replySent p) rfl
    | quietExpiry p => exact hevent _ (Effects.quietExpiry p) rfl
    | lostExpiry p => exact hevent _ (Effects.lostExpiry p) rfl
    | runTimeExpiry f => exact hevent _ (Effects.expireRunTime · f) rfl
    | ripeningExpiry f => exact hevent _ (Effects.expireRipening · f) rfl
    | selection => exact hevent _ Effects.refl rfl
    | holdLimitExpiry => exact hevent _ Effects.expireHold rfl
    | callWindowExpiry => exact hevent _ Effects.callWindowExpiry rfl
    | gateExpiry => exact hevent _ (fun u => Effects.abortWhen u _ _) rfl
    | markReached => exact hevent _ Effects.markReached rfl
    | stepEnd => exact hevent _ Effects.stepEnd rfl
    | tripHoldLimitExpiry => exact hevent _ (fun u => Effects.abortWhen u _ _) rfl
    | gapExpiry => cases h; exact ((Effects.takeSwitch s).trans (Effects.expireGap _)).step
    | startWindowExpiry pair => exact hevent _ (Effects.startWindowExpiry pair) rfl
    | stopWindowExpiry pair => exact hevent _ (Effects.stopWindowExpiry pair) rfl
    | inputRawChange i high =>
      cases h
      split
      · split
        · exact (Effects.setInput s i _).step
        · exact StepEffects.refl s
      · exact StepEffects.event fun u => (Effects.inputRawChange i high u).step
    | inputQualifyExpiry i => exact hevent _ (Effects.qualify · i) rfl
    | basinAccrual => exact hevent _ Effects.takeAccrual rfl
    | lockExpiry => exact hevent _ Effects.lockExpiry rfl
    | switchTake => cases h; exact (Effects.takeSwitch s).step
    | startByteReceived p byte =>
      cases h
      exact StepEffects.event (StepEffects.startByteReceived p byte)
    | unknownRequestKind p n k v => exact absurd (.inr ⟨p, n, k, v, rfl⟩) hreq
    | attention p tag mask => exact absurd (.inl (by cases mask <;> rfl)) hreq
    | _ => exact absurd (.inl rfl) hreq

/-! ### The idle step -/

theorem firstDue_some {α : Type} {due : α → Bool} {all : List α} {e : α → State → State} {g : State → State}
    (h : firstDue due all e = some g) : ∃ a, g = e a := by
  simp only [firstDue, Option.map_eq_some_iff] at h
  obtain ⟨a, -, rfl⟩ := h
  exact ⟨a, rfl⟩

theorem whenDue_some {due : Bool} {e g : State → State} (h : whenDue due e = some g) : g = e := by
  unfold whenDue at h
  split at h
  · exact (Option.some.inj h).symm
  · cases h

theorem Effects.storeRunsOut (s : State) : Effects s s.storeRunsOut :=
  (Effect.setDraws (s.draws + 1)).chain.trans (Effects.storeComplete _ _)

/-- The event that the idle step takes is a chain of effects. -/
theorem Effects.nextDue {s : State} {e : State → State} (h : s.nextDue = some e) (u : State) : Effects u (e u) := by
  have hmem : some e ∈ s.dueEvents := by
    obtain ⟨o, ho, he⟩ := List.exists_of_findSome?_eq_some h
    exact (show o = some e from he) ▸ ho
  simp only [State.dueEvents, List.mem_cons, List.not_mem_nil, or_false] at hmem
  rcases hmem with h | h | h | h | h | h | h | h | h | h | h | h | h | h | h | h | h <;>
    first
    | (obtain ⟨a, rfl⟩ := firstDue_some h.symm)
    | (obtain rfl := whenDue_some h.symm)
  · exact Effects.takeAccrual u
  · exact Effects.qualify u a
  · exact Effects.callWindowExpiry u
  · exact Effects.abortWhen u _ _
  · exact Effects.abortWhen u _ _
  · exact Effects.markReached u
  · exact Effects.stepEnd u
  · exact Effects.startWindowExpiry a u
  · exact Effects.stopWindowExpiry a u
  · exact Effects.expireGap u
  · exact Effects.expireHold u
  · exact Effects.quietExpiry a u
  · exact Effects.lostExpiry a u
  · exact Effects.expireRunTime u a
  · exact Effects.expireRipening u a
  · exact Effects.lockExpiry u
  · exact Effects.storeRunsOut u

theorem Effects.idle (s : State) : Effects s s.idle := by
  unfold State.idle
  split
  · rename_i n _
    unfold State.idleLoading
    dsimp only
    have hload := (Effect.loadOn (s := s) (s.hundredth + 1) (n + 1)).chain
    split
    · exact (hload.trans (Effect.setDraws (s.draws + 1)).chain).trans (Effect.completeLoad _).chain
    · exact hload
  · unfold State.idleRunning
    refine (Effects.atOnce s).trans ?_
    cases hn : s.atOnce.nextDue with
    | none => exact Effect.tick.chain
    | some e => exact Effects.nextDue hn _

/-- Every step is a chain of effects and replies. -/
theorem StepEffects.of_step {s t : State} (h : step s = .next t) : StepEffects s t := by
  unfold step at h
  split at h
  · cases h
    exact (Effects.idle s).step
  · rename_i c rest _
    exact (Effects.setPending s rest).step.trans (StepEffects.of_exec h)

/-- A law that every effect and every reply keeps is kept by every step. -/
theorem step_keeps {P : State → Prop} (he : ∀ s t, Effect s t → P s → P t)
    (hr : ∀ s p r, s.repliesFull p = false → P s → P (s.reply p r)) {s t : State} (h : step s = .next t) (hs : P s) : P t :=
  (StepEffects.of_step h).keeps he hr hs

end Sys2Proof.Machine
end

section
/-! PROOFS. Each stored law is kept by every effect, and so by every step (O58), and so are the claims (O56) and the outputs (O57). -/

namespace Sys2Proof.Machine

/-! ### The header across 10 ms and across a start of the part -/

/-- The step timer alone moves the header as time passes (R74). -/
theorem State.tick_header (s : State) :
    s.tick.header = s.header ∨ ∃ w r st, s.header = .stepping w r ∧ w.stepAt r.step = some st ∧
      s.tick.header = .stepping w (r.second st) := by
  have hclock : s.runInputs.ageStore.openAccrual.advanceClock.header = s.header := by
    unfold State.advanceClock
    split <;> rfl
  have hsecond : ∀ t : State, t.header = s.header → t.stepSecond.header = s.header ∨
      ∃ w r st, s.header = .stepping w r ∧ w.stepAt r.step = some st ∧ t.stepSecond.header = .stepping w (r.second st) := by
    intro t ht
    unfold State.stepSecond
    split
    · rename_i w r h
      split
      · rename_i st hst
        exact .inr ⟨w, r, st, ht ▸ h, hst, rfl⟩
      · exact .inl ht
    · exact .inl ht
  unfold State.tick State.newSecond
  dsimp only
  split
  · exact .inl rfl
  · refine hsecond _ ?_
    unfold State.advanceClock
    split <;> rfl

@[simp] theorem State.completeLoad_frame (s : State) (intact : Bool) :
    (s.completeLoad intact).phase = .running ∧ (s.completeLoad intact).ports = ByPort.const Port.start ∧
    (s.completeLoad intact).queue = [] ∧ (s.completeLoad intact).holder = none ∧ (s.completeLoad intact).budget = 0 ∧
    (s.completeLoad intact).hold = none ∧ (s.completeLoad intact).holdFlags = ByPort.const false ∧
    (s.completeLoad intact).outputs = Lines.allOff ∧ (s.completeLoad intact).volume = (s.loadedContent intact).plant.capacity ∧
    (s.completeLoad intact).active = .normal ∧ (s.completeLoad intact).plant = (s.loadedContent intact).plant ∧
    (s.completeLoad intact).lock = none ∧ (s.completeLoad intact).switch = none ∧ (s.completeLoad intact).storing = none ∧
    (s.completeLoad intact).image = s.image ∧ (s.completeLoad intact).history = [] ∧ (s.completeLoad intact).nextSeq = 0 := by
  simp [State.completeLoad, State.withHeader, State.startUp, State.reset]

theorem State.completeLoad_filter (s : State) (intact : Bool) (f : FilterNo) :
    (s.completeLoad intact).filter f = ((s.loadedContent intact).assignments.get f).map Filter.fresh := by
  simp [State.filter, State.completeLoad, State.withHeader, State.startUp]

theorem State.completeLoad_header (s : State) (intact : Bool) :
    (s.completeLoad intact).header = if (s.completeLoad intact).validBank .normal then .idle else .offline := by
  have hvalid : ∀ h, ((s.startUp (s.loadedContent intact)).withHeader h).validBank .normal =
      (s.startUp (s.loadedContent intact)).validBank .normal := fun h => State.validBank_congr rfl rfl rfl rfl _
  simp only [State.completeLoad, hvalid, State.header_withHeader]

@[simp] theorem State.restart_frame (s : State) (rate0 rate1 : Bool) :
    (s.restart rate0 rate1).phase = .loading 0 ∧ (s.restart rate0 rate1).ports = ByPort.const Port.start ∧
    (s.restart rate0 rate1).filters = Table.const none ∧ (s.restart rate0 rate1).queue = [] ∧
    (s.restart rate0 rate1).holder = none ∧ (s.restart rate0 rate1).budget = 0 ∧ (s.restart rate0 rate1).hold = none ∧
    (s.restart rate0 rate1).holdFlags = ByPort.const false ∧ (s.restart rate0 rate1).header = .offline ∧
    (s.restart rate0 rate1).outputs = Lines.allOff ∧ (s.restart rate0 rate1).volume = 400000 ∧
    (s.restart rate0 rate1).plant = Plant.default ∧ (s.restart rate0 rate1).lock = none ∧
    (s.restart rate0 rate1).switch = none ∧ (s.restart rate0 rate1).storing = none ∧
    (s.restart rate0 rate1).history = [] ∧ (s.restart rate0 rate1).nextSeq = 0 := by
  simp [State.restart, State.reset]

/-! ### Basin (R112) -/

theorem BasinLaw.congr {s t : State} (hs : BasinLaw s) (hv : t.volume = s.volume) (hp : t.plant = s.plant) : BasinLaw t := by
  rwa [BasinLaw, hv, hp]

theorem BasinLaw.effect {s t : State} (h : Effect s t) (hs : BasinLaw s) : BasinLaw t := by
  cases h with
  | restart => exact Nat.le_refl 400000
  | completeLoad intact => simp [BasinLaw]
  | setPlant x v volume => exact volume hs
  | setAccount v a volume => exact volume hs
  | _ => exact hs.congr (by simp) (by simp)

/-! ### The pending switch (R133) -/

theorem SwitchLaw.congr {s t : State} (hs : SwitchLaw s) (hx : t.switch = s.switch) (ha : t.active = s.active) :
    SwitchLaw t := by
  rwa [SwitchLaw, hx, ha]

theorem SwitchLaw.of_none {t : State} (h : t.switch = none) : SwitchLaw t := fun x hx => by rw [h] at hx; cases hx

theorem SwitchLaw.effect {s t : State} (h : Effect s t) (hs : SwitchLaw s) : SwitchLaw t := by
  cases h with
  | restart => exact .of_none (by simp)
  | completeLoad => exact .of_none (by simp)
  | setSwitch x target => exact fun y hy => (target y hy).elim (hs y) id
  | activate => exact .of_none rfl
  | _ => exact hs.congr (by simp) (by simp)

/-! ### The budget (R52) -/

theorem BudgetLaw.congr {s t : State} (hs : BudgetLaw s) (hb : t.budget = s.budget) (ha : t.activeBank = s.activeBank) :
    BudgetLaw t := by
  rwa [BudgetLaw, hb, ha]

theorem State.budget_passTenure (s : State) (p : PortNo) : (s.passTenure p).budget = s.activeBank.runLength - 1 := by
  unfold State.passTenure
  dsimp only
  split <;> split <;> simp

/-- A selection spends budget or sets it from the run length. -/
theorem State.budget_select (s : State) (f : FilterNo) (r : Filter) :
    (s.select f r).budget = s.budget ∨ (s.select f r).budget = s.budget - 1 ∨
      (s.select f r).budget = s.activeBank.runLength - 1 := by
  have hbank : (s.callFilter f).activeBank = s.activeBank := State.activeBank_congr (by simp) (by simp) (by simp)
  have hselect : (s.select f r).budget = ((s.callFilter f).updateTenure r.owner (s.rivalAt r.owner s.topClass)).budget := by
    simp [State.select, State.withHeader]
  rw [hselect]
  unfold State.updateTenure
  split
  · split
    · exact .inr (.inl (by simp))
    · exact .inl (by simp)
  · exact .inr (.inr (by rw [State.budget_passTenure, hbank]))

theorem BudgetLaw.effect {s t : State} (h : Effect s t) (hs : BudgetLaw s) : BudgetLaw t := by
  have hbank : ∀ {u : State}, u.normal = s.normal → u.storm = s.storm → u.active = s.active → u.budget = s.budget →
      BudgetLaw u := fun hn hst ha hb => hs.congr hb (State.activeBank_congr hn hst ha)
  cases h with
  | restart => simp [BudgetLaw]
  | completeLoad => simp [BudgetLaw]
  | setBank b k standby =>
    refine hs.congr (by simp) ?_
    rw [State.activeBank, State.activeBank, State.setBank_active, State.bank_setBank_ne _ _ (Ne.symm standby)]
  | activate b valid =>
    refine Nat.le_trans (Nat.min_le_right s.budget _) (Nat.le_of_eq ?_)
    cases b <;> rfl
  | select f r =>
    have hb : (s.select f r).activeBank = s.activeBank := State.activeBank_congr (by simp) (by simp) (by simp)
    unfold BudgetLaw at hs ⊢
    rw [hb]
    rcases s.budget_select f r with e | e | e <;> omega
  | _ => exact hbank (by simp) (by simp) (by simp) (by simp)

/-! ### The active bank (R124) -/

theorem ActiveBankLaw.congr {s t : State} (hs : ActiveBankLaw s) (hp : t.phase = s.phase)
    (hh : s.header = .offline → t.header = .offline) (hl : ∀ f, t.letterOf f = s.letterOf f) (hn : t.normal = s.normal)
    (hst : t.storm = s.storm) (hc : t.plant = s.plant) (ha : t.active = s.active) : ActiveBankLaw t := by
  intro hrun hoff
  rw [State.validBank_of_letters hl hn hst (congrArg Plant.capacity hc), ha]
  exact hs (hp ▸ hrun) (mt hh hoff)

/-- A change that leaves the filters' letters as they were by leaving the filters. -/
theorem ActiveBankLaw.congr_filters {s t : State} (hs : ActiveBankLaw s) (hf : t.filters = s.filters) (hp : t.phase = s.phase)
    (hh : t.header = s.header) (hn : t.normal = s.normal) (hst : t.storm = s.storm) (hc : t.plant = s.plant)
    (ha : t.active = s.active) : ActiveBankLaw t :=
  hs.congr hp (fun e => hh.trans e) (State.letterOf_congr hf) hn hst hc ha

/-- A change that breaks no valid active bank. -/
theorem ActiveBankLaw.of_breaks {s t : State} (hs : ActiveBankLaw s) (hb : s.breaksActive t = false) (hp : t.phase = s.phase)
    (hh : t.header = s.header) : ActiveBankLaw t := by
  intro hrun hoff
  have hv := hs (hp ▸ hrun) (hh ▸ hoff)
  simpa [State.breaksActive, hv] using hb

theorem State.letterOf_mapFilter (s : State) (f g : FilterNo) {k : Filter → Filter} (hk : ∀ r, (k r).letter = r.letter) :
    (s.mapFilter f k).letterOf g = s.letterOf g := by
  unfold State.letterOf State.mapFilter
  by_cases h : g = f
  · subst h; cases hs : s.filter g <;> simp [hk]
  · rw [State.filter_setFilter_ne _ _ h]

theorem State.letterOf_callFilter (s : State) (f g : FilterNo) : (s.callFilter f).letterOf g = s.letterOf g := by
  unfold State.callFilter
  split <;> simp

theorem State.letterOf_select (s : State) (f g : FilterNo) (r : Filter) : (s.select f r).letterOf g = s.letterOf g :=
  (State.letterOf_congr (s := s.callFilter f) (by simp [State.select, State.withHeader]) g).trans
    (State.letterOf_callFilter s f g)

theorem State.letterOf_abortFilter (s : State) (w : Wash) (g : FilterNo) :
    (s.abortFilter w).letterOf g = s.letterOf g := by
  unfold State.abortFilter
  dsimp only
  split
  · rw [State.letterOf_setService, State.letterOf_mapFilter]
    exact fun _ => rfl
  · rw [State.letterOf_returnToDue, State.letterOf_mapFilter]
    exact fun _ => rfl

theorem ActiveBankLaw.effect {s t : State} (h : Effect s t) (hs : ActiveBankLaw s) : ActiveBankLaw t := by
  cases h with
  | loadOn h k => exact fun hrun _ => by cases hrun
  | restart => exact fun hrun _ => by simp at hrun
  | completeLoad intact =>
    intro _ hoff
    rw [State.completeLoad_header] at hoff
    simp only [State.completeLoad_frame]
    by_contra hv
    exact hoff (if_neg hv)
  | tick =>
    refine hs.congr (by simp) (fun e => ?_) (State.letterOf_congr (by simp)) (by simp) (by simp) (by simp) (by simp)
    rcases s.tick_header with ht | ⟨w, r, st, hh, -⟩
    · rw [ht, e]
    · rw [e] at hh; cases hh
  | setBank b k standby =>
    refine hs.of_breaks (State.breaksActive_of_valid (by simp) ?_) (by simp) (by simp)
    have hbank : (s.setBank b k).bank s.active = s.bank s.active := State.bank_setBank_ne _ _ (Ne.symm standby)
    unfold State.validBank State.presentCount State.recipeFits
    simp [hbank]
  | setPlant x v volume active => exact hs.of_breaks active rfl rfl
  | activate b valid =>
    intro _ _
    exact (State.validBank_congr (s := s) rfl rfl rfl rfl b).trans valid
  | setFilter f x place active => exact hs.of_breaks active rfl rfl
  | leaveQueue f v =>
    exact hs.congr (by simp) (by simp) (by simp) (by simp) (by simp) (by simp) (by simp)
  | enterQueue f d =>
    exact hs.congr (by simp) (by simp) (by simp) (by simp) (by simp) (by simp) (by simp)
  | addReasons f new =>
    exact hs.congr (by simp) (by simp) (by simp) (by simp) (by simp) (by simp) (by simp)
  | setHeader h called washing still valid =>
    intro hrun hoff
    rw [State.validBank_congr (s := s) (t := s.withHeader h) rfl rfl rfl rfl]
    by_cases ho : s.header = .offline
    · exact (valid ho).resolve_left hoff
    · exact hs hrun ho
  | mapWash g => exact hs.congr rfl (fun e => by simp [e, Header.mapWash]) (fun _ => rfl) rfl rfl rfl rfl
  | select f r idle =>
    exact hs.congr (by simp) (by simp [idle]) (State.letterOf_select s f · r) (by simp) (by simp) (by simp) (by simp)
  | endCall w time calling =>
    refine hs.congr (by simp) (by simp [calling]) (fun f => ?_) (by simp) (by simp) (by simp) (by simp)
    exact (State.letterOf_congr (s := s.returnToDue w.filter time) rfl f).trans (State.letterOf_returnToDue ..)
  | holdCalled w reason calling =>
    refine hs.congr (by simp) (by simp [calling]) (fun f => ?_) (by simp) (by simp) (by simp) (by simp)
    exact (State.letterOf_congr (s := s.setService w.filter _) rfl f).trans (State.letterOf_setService ..)
  | isolate w d start r since calling =>
    refine hs.congr (by simp) (by simp [calling]) (fun f => ?_) (by simp) (by simp) (by simp) (by simp)
    exact (State.letterOf_congr (s := s.setService w.filter _) rfl f).trans (State.letterOf_setService ..)
  | drive w v r st n washing =>
    exact hs.congr rfl (fun e => by rw [e] at washing; cases washing) (fun _ => rfl) rfl rfl rfl rfl
  | pause h v w n washing =>
    exact hs.congr rfl (fun e => by rw [e] at washing; cases washing) (fun _ => rfl) rfl rfl rfl rfl
  | abortEntry w v r x cause n live =>
    exact hs.congr (by simp) (fun e => by rw [e] at live; cases live) (State.letterOf_abortFilter _ w) (by simp)
      (by simp) (by simp) (by simp)
  | completion w r n since taken stepping =>
    refine hs.congr (by simp) (by simp [stepping]) (fun f => ?_) (by simp) (by simp) (by simp) (by simp)
    exact State.letterOf_mapFilter (s.setOutputs Lines.allOff n) w.filter f fun _ => rfl
  | _ => exact hs.congr_filters (by simp) (by simp) (by simp) (by simp) (by simp) (by simp) (by simp)

/-! ### Ports (R150, R151) -/

theorem PortLaw.countSound {s : State} (hs : PortLaw s) (p : PortNo) : (s.port p).CountSound := ⟨hs.bad p, hs.blocked p⟩

theorem PortLaw.of {s : State} (hr : ∀ p, (s.port p).replies.length ≤ replyLimit) (hc : ∀ p, (s.port p).CountSound) :
    PortLaw s := ⟨hr, fun p => (hc p).le, fun p => (hc p).blocked⟩

theorem PortLaw.of_start {s : State} (h : ∀ p, s.port p = Port.start) : PortLaw s :=
  .of (fun p => by simp [h, Port.start]) fun p => ⟨by simp [h, Port.start], by simp [h, Port.start, badLimit]⟩

/-- One port changes for another within the law. -/
theorem PortLaw.setPort {s : State} (hs : PortLaw s) {p : PortNo} {q : Port} (hr : q.replies.length ≤ replyLimit)
    (hc : q.CountSound) : PortLaw (s.setPort p q) := by
  refine .of (fun i => ?_) fun i => ?_ <;> by_cases h : i = p
  · subst h; simpa using hr
  · rw [State.port_setPort_ne _ _ h]; exact hs.replies i
  · subst h; simpa using hc
  · rw [State.port_setPort_ne _ _ h]; exact hs.countSound i

theorem PortLaw.effect {s t : State} (h : Effect s t) (hs : PortLaw s) : PortLaw t := by
  rcases h.ports with hl | ⟨p, q, rfl, hr, hc⟩ | hstart
  · refine .of (fun p => ?_) fun p => ?_ <;> obtain ⟨l, hl⟩ := hl p <;> rw [hl]
    · exact hs.replies p
    · exact ⟨hs.bad p, hs.blocked p⟩
  · exact hs.setPort (Nat.le_trans hr (hs.replies p)) (hc (hs.countSound p))
  · exact .of_start hstart

theorem PortLaw.reply {s : State} {p : PortNo} (r : Reply) (hroom : s.repliesFull p = false) (hs : PortLaw s) :
    PortLaw (s.reply p r) := by
  refine hs.setPort ?_ ⟨hs.bad p, hs.blocked p⟩
  simp only [State.repliesFull, decide_eq_false_iff_not] at hroom
  simp only [List.length_append, List.length_singleton]
  omega

/-! ### The history (R139) -/

theorem next16_lt {n : Nat} (h : n < 65536) : next16 n < 65536 := by
  unfold next16
  split <;> omega

/-- Of consecutive numbers the newest are consecutive. -/
theorem seqsBefore_take (next : Nat) (l : List Nat) (k : Nat) (h : seqsBefore next l) : seqsBefore next (l.take k) := by
  induction l generalizing next k with
  | nil => simp [seqsBefore]
  | cons newest older ih =>
    cases k with
    | zero => simp [seqsBefore]
    | succ k => exact ⟨h.1, ih _ _ h.2⟩

theorem HistoryLaw.congr {s t : State} (hs : HistoryLaw s) (hh : t.history = s.history) (hn : t.nextSeq = s.nextSeq) :
    HistoryLaw t := ⟨hh ▸ hs.count, hn ▸ hs.next, by rw [hh, hn]; exact hs.seqs⟩

theorem HistoryLaw.of_empty {t : State} (hh : t.history = []) (hn : t.nextSeq = 0) : HistoryLaw t :=
  ⟨by simp [hh], by simp [hn], by simp [hh, seqsBefore]⟩

theorem HistoryLaw.appendHistory {s : State} {x : HistoryRecord} (hx : x.seq = s.nextSeq) (hs : HistoryLaw s) :
    HistoryLaw (s.appendHistory x) where
  count := by
    have := hs.count
    simp only [State.appendHistory, pushRecord, historyLimit, List.length_append, List.length_drop,
      List.length_singleton] at this ⊢
    omega
  next := next16_lt hs.next
  seqs := by
    simp only [State.appendHistory, pushRecord, List.reverse_append, List.reverse_singleton, List.singleton_append,
      List.map_cons, List.reverse_drop, List.map_take]
    exact ⟨by rw [hx], hx ▸ seqsBefore_take _ _ _ hs.seqs⟩

theorem HistoryLaw.effect {s t : State} (h : Effect s t) (hs : HistoryLaw s) : HistoryLaw t := by
  cases h with
  | restart => exact .of_empty (by simp) (by simp)
  | completeLoad => exact .of_empty (by simp) (by simp)
  | appendHistory x seq => exact hs.appendHistory seq
  | holdCalled w => exact hs.congr (by simp [State.withHeader]) (by simp [State.withHeader])
  | isolate w => exact hs.congr (by simp [State.withHeader]) (by simp [State.withHeader])
  | completion w => exact hs.congr (by simp [State.withHeader]) (by simp [State.withHeader])
  | _ => exact hs.congr (by simp) (by simp)

/-! ### STORE (R168) -/

theorem StoreLaw.congr {s t : State} (hs : StoreLaw s) (hw : t.storing.isSome = s.storing.isSome) (hi : t.image = s.image) :
    StoreLaw t := by
  rwa [StoreLaw, hw, hi]

theorem State.tick_storing (s : State) : s.tick.storing.isSome = s.storing.isSome := by
  have hclock : ∀ t : State, t.advanceClock.storing = t.storing := by
    intro t
    unfold State.advanceClock
    split <;> rfl
  have hsecond : ∀ t : State, t.stepSecond.storing = t.storing := by
    intro t
    unfold State.stepSecond
    split
    · split <;> rfl
    · rfl
  unfold State.tick State.newSecond
  dsimp only
  split
  · exact Option.isSome_map
  · rw [hsecond, hclock]
    exact Option.isSome_map

theorem StoreLaw.effect {s t : State} (h : Effect s t) (hs : StoreLaw s) : StoreLaw t := by
  cases h with
  | restart => exact fun e => by simp at e
  | completeLoad => exact fun e => by simp at e
  | tick => exact hs.congr s.tick_storing (by simp)
  | setStore w x invalid => exact invalid
  | _ => exact hs.congr (by simp) (by simp)

end Sys2Proof.Machine
end

section
/-! PROOFS. The places of the filters in the rotation, under each operation on records and queue; the due fields (part of O58). -/

namespace Sys2Proof.Machine

/-! ### Reading a place -/

/-- The due fields of a place. -/
def Place.fields : Place → Due
  | .due d => d
  | .called d => d
  | .washing d => d

theorem Service.dueFields_eq (v : Service) : v.dueFields = v.place.map Place.fields := by cases v <;> rfl

theorem State.place_congr {s t : State} (h : t.filters = s.filters) (f : FilterNo) : t.place f = s.place f := by
  rw [State.place, State.place, State.filter_congr h]

@[simp] theorem State.place_enqueue (s : State) (f g : FilterNo) : (s.enqueue f).place g = s.place g := State.place_congr rfl g

@[simp] theorem State.place_dequeue (s : State) (f g : FilterNo) : (s.dequeue f).place g = s.place g := State.place_congr rfl g

@[simp] theorem State.place_withHeader (s : State) (h : Header) (g : FilterNo) : (s.withHeader h).place g = s.place g :=
  State.place_congr rfl g

@[simp] theorem State.place_setOutputs (s : State) (o : Lines) (n : Nat) (g : FilterNo) :
    (s.setOutputs o n).place g = s.place g := State.place_congr rfl g

theorem State.place_setFilter_ne (s : State) {f g : FilterNo} (x : Option Filter) (h : g ≠ f) :
    (s.setFilter f x).place g = s.place g := by
  rw [State.place, State.filter_setFilter_ne _ _ h, State.place]

@[simp] theorem State.place_setFilter (s : State) (f : FilterNo) (x : Option Filter) :
    (s.setFilter f x).place f = x.bind fun r => r.service.place := by
  rw [State.place, State.filter_setFilter]

theorem State.place_setService_ne (s : State) {f g : FilterNo} (v : Service) (h : g ≠ f) :
    (s.setService f v).place g = s.place g := s.place_setFilter_ne _ h

theorem State.place_setService {s : State} {f : FilterNo} (v : Service) (h : (s.filter f).isSome = true) :
    (s.setService f v).place f = v.place := by
  obtain ⟨r, hr⟩ := Option.isSome_iff_exists.1 h
  rw [State.setService_some hr, State.place_setFilter, Option.bind_some]

/-- A filter with a place is present. -/
theorem State.filter_isSome_of_place {s : State} {f : FilterNo} {x : Place} (h : s.place f = some x) :
    (s.filter f).isSome = true := by
  cases hf : s.filter f with
  | none => simp [State.place, hf] at h
  | some r => rfl

/-- A change of a record beside its service state leaves every place. -/
theorem State.place_mapFilter (s : State) (f g : FilterNo) {k : Filter → Filter} (hk : ∀ r, (k r).service = r.service) :
    (s.mapFilter f k).place g = s.place g := by
  by_cases h : g = f
  · subst h
    rw [State.mapFilter, State.place_setFilter, State.place]
    cases s.filter g <;> simp [hk]
  · exact s.place_setFilter_ne _ h

theorem State.dueFields_eq_some {s : State} {f : FilterNo} {d : Due} : s.dueFields f = some d ↔ s.place f = some (.due d) := by
  unfold State.dueFields State.place
  cases s.filter f with
  | none => simp
  | some r => cases h : r.service <;> simp [Service.place, h]

theorem State.isDue_iff {s : State} {f : FilterNo} : s.isDue f = true ↔ ∃ d, s.place f = some (.due d) := by
  simp only [State.isDue, Option.isSome_iff_exists, State.dueFields_eq_some]

theorem State.isCalled_iff {s : State} {f : FilterNo} : s.isCalled f = true ↔ ∃ d, s.place f = some (.called d) := by
  unfold State.isCalled State.place
  cases s.filter f with
  | none => simp
  | some r => cases h : r.service <;> simp [Service.place, h]

theorem State.isWashing_iff {s : State} {f : FilterNo} : s.isWashing f = true ↔ ∃ d, s.place f = some (.washing d) := by
  unfold State.isWashing State.place
  cases s.filter f with
  | none => simp
  | some r => cases h : r.service <;> simp [Service.place, h]

theorem State.dueFields_of_place {s t : State} {f : FilterNo} (h : t.place f = s.place f) : t.dueFields f = s.dueFields f :=
  Option.ext fun d => by rw [State.dueFields_eq_some, State.dueFields_eq_some, h]

/-! ### Reasons that join and filters that return, case by case -/

/-- The four things that reasons for a filter can do (R8, R9, R12). -/
theorem State.addReasons_elim {P : State → Prop} (s : State) (f : FilterNo) (new : Reasons) (same : P s)
    (enter : ∀ start, s.place f = none → (s.filter f).isSome = true → new.isNonempty = true →
      P ((s.setService f (.due ⟨new, new.cls, s.clock⟩ start)).enqueue f))
    (rise : ∀ d start, s.place f = some (.due d) → d.cls.code < (d.reasons.join new).cls.code →
      P (((s.dequeue f).setService f (.due ⟨d.reasons.join new, (d.reasons.join new).cls, s.clock⟩ start)).enqueue f))
    (keep : ∀ d start, s.place f = some (.due d) → (d.reasons.join new).cls.code ≤ d.cls.code →
      P (s.setService f (.due { d with reasons := d.reasons.join new } start))) : P (s.addReasons f new) := by
  unfold State.addReasons
  split
  · rename_i start h
    split
    · rename_i hn
      exact enter start (State.place_eq h) (by simpa using congrArg Option.isSome h) hn
    · exact same
  · rename_i d start h
    dsimp only
    split
    · rename_i hr
      exact rise d start (State.place_eq h) hr
    · rename_i hr
      exact keep d start (State.place_eq h) (Nat.le_of_not_lt hr)
  · exact same

/-- A CALLED or WASHING filter returns to DUE; in every other state nothing happens (R29, R30). -/
theorem State.returnToDue_elim {P : State → Prop} (s : State) (f : FilterNo) (time : Option Nat)
    (same : (∀ d, s.place f ≠ some (.called d)) → (∀ d, s.place f ≠ some (.washing d)) → P s)
    (back : ∀ d start, s.place f = some (.called d) ∨ s.place f = some (.washing d) →
      P (((s.setService f (.due { d with queueTime := time.getD d.queueTime } start)).enqueue f).expireRunTime f)) :
    P (s.returnToDue f time) := by
  unfold State.returnToDue
  split
  · rename_i d start h
    exact back d start (.inl (State.place_eq h))
  · rename_i d start h
    exact back d start (.inr (State.place_eq h))
  · rename_i hcalled hwashing
    refine same (fun d h => ?_) (fun d h => ?_) <;> unfold State.place at h <;> cases hf : s.filter f with
    | none => simp [hf] at h
    | some r =>
      cases hv : r.service <;> simp [hf, hv, Service.place] at h
      simp [hf, hv] at hcalled hwashing

theorem State.place_addReasons_ne (s : State) {f g : FilterNo} (new : Reasons) (h : g ≠ f) :
    (s.addReasons f new).place g = s.place g := by
  refine s.addReasons_elim (P := fun t => t.place g = s.place g) f new rfl (fun _ _ _ _ => ?_) (fun _ _ _ _ => ?_) (fun _ _ _ _ => ?_)
  · rw [State.place_enqueue, State.place_setService_ne _ _ h]
  · rw [State.place_enqueue, State.place_setService_ne _ _ h, State.place_dequeue]
  · rw [State.place_setService_ne _ _ h]

theorem State.place_expireRunTime_ne (s : State) {f g : FilterNo} (h : g ≠ f) : (s.expireRunTime f).place g = s.place g := by
  unfold State.expireRunTime
  split
  · exact s.place_addReasons_ne _ h
  · rfl

theorem State.place_returnToDue_ne (s : State) {f g : FilterNo} (time : Option Nat) (h : g ≠ f) :
    (s.returnToDue f time).place g = s.place g :=
  s.returnToDue_elim (P := fun t => t.place g = s.place g) f time (fun _ _ => rfl) fun _ _ _ => by
    rw [State.place_expireRunTime_ne _ h, State.place_enqueue, State.place_setService_ne _ _ h]

/-! ### Sound due fields (R7) -/

theorem Class.code_max (a b : Class) : (a.max b).code = Nat.max a.code b.code := by cases a <;> cases b <;> rfl

theorem Class.one_le_code (c : Class) : 1 ≤ c.code := by cases c <;> decide

theorem Class.code_injective {a b : Class} (h : a.code = b.code) : a = b := by cases a <;> cases b <;> simp_all [Class.code]

theorem Reasons.isNonempty_join {a b : Reasons} (h : a.isNonempty = true) : (a.join b).isNonempty = true := by
  obtain ⟨l, t, u, x⟩ := a
  obtain ⟨l', t', u', x'⟩ := b
  cases x <;> cases x' <;> simp_all [Reasons.isNonempty, Reasons.join]
  tauto

/-- Reasons that join take no class away. -/
theorem Reasons.code_cls_join (a b : Reasons) : a.cls.code ≤ (a.join b).cls.code := by
  have hbit : ∀ (c : Class) (x y : Bool), (if x then c else .routine).code ≤ (if (x || y) then c else Class.routine).code := by
    intro c x y
    cases x
    · exact Class.one_le_code _
    · exact Nat.le_refl _
  have hstation : (a.station.getD .routine).code ≤ ((a.join b).station.getD .routine).code := by
    unfold Reasons.join
    cases a.station with
    | none => exact Class.one_le_code _
    | some x =>
      cases b.station with
      | none => exact Nat.le_refl _
      | some y =>
        rw [Option.getD_some, Option.getD_some, Class.code_max]
        exact Nat.le_max_left _ _
  have hmax : ∀ {m n m' n' : Nat}, m ≤ m' → n ≤ n' → Nat.max m n ≤ Nat.max m' n' := fun h h' => max_le_max h h'
  simp only [Reasons.cls, Class.code_max]
  exact hmax (hmax (hbit .urgent a.turbidity b.turbidity) (hbit .prompt a.headloss b.headloss)) hstation

/-- New due fields of reasons alone. -/
theorem Due.sound_of_reasons {new : Reasons} (h : new.isNonempty = true) (time : Nat) : Due.Sound ⟨new, new.cls, time⟩ := ⟨h, rfl⟩

theorem Due.Sound.join {d : Due} (h : d.Sound) {new : Reasons} (hr : (d.reasons.join new).cls.code ≤ d.cls.code) :
    Due.Sound { d with reasons := d.reasons.join new } :=
  ⟨Reasons.isNonempty_join h.reason,
    Class.code_injective (Nat.le_antisymm (h.cls ▸ Reasons.code_cls_join _ _) hr)⟩

theorem Due.Sound.requeued {d : Due} (h : d.Sound) (time : Nat) : Due.Sound { d with queueTime := time } := ⟨h.reason, h.cls⟩

/-! ### The due law (R7, R11) -/

theorem DueLaw.iff {s : State} : DueLaw s ↔ ∀ f x, s.place f = some x → x.fields.Sound := by
  constructor
  · intro h f x hx
    obtain ⟨r, hr, hp⟩ := Option.bind_eq_some_iff.1 hx
    obtain ⟨reason, cls⟩ := h f r x.fields hr (by rw [Service.dueFields_eq, hp]; rfl)
    exact ⟨reason, cls⟩
  · intro h f r d hr hd
    rw [Service.dueFields_eq] at hd
    obtain ⟨x, hx, rfl⟩ := Option.map_eq_some_iff.1 hd
    have := h f x (by rw [State.place_of_filter hr, hx])
    exact ⟨this.reason, this.cls⟩

theorem DueLaw.congr {s t : State} (hs : DueLaw s) (h : ∀ f, t.place f = s.place f) : DueLaw t :=
  DueLaw.iff.2 fun f x hx => DueLaw.iff.1 hs f x (h f ▸ hx)

/-- One filter changes its place. -/
theorem DueLaw.update {s t : State} (hs : DueLaw s) {f : FilterNo} (others : ∀ g, g ≠ f → t.place g = s.place g)
    (own : ∀ x, t.place f = some x → x.fields.Sound) : DueLaw t := by
  refine DueLaw.iff.2 fun g x hx => ?_
  by_cases h : g = f
  · subst h; exact own x hx
  · exact DueLaw.iff.1 hs g x (others g h ▸ hx)

/-- A filter takes a service state whose due fields, if any, are sound. -/
theorem DueLaw.setService {s : State} (hs : DueLaw s) (f : FilterNo) {v : Service}
    (hv : ∀ x, v.place = some x → x.fields.Sound) : DueLaw (s.setService f v) := by
  refine hs.update (fun g hg => s.place_setService_ne v hg) fun x hx => ?_
  cases hf : (s.filter f).isSome with
  | true => exact hv x (s.place_setService v hf ▸ hx)
  | false =>
    have hn : s.filter f = none := by simpa using hf
    simp [State.setService, State.mapFilter, hn] at hx

theorem DueLaw.setService_due {s : State} (hs : DueLaw s) (f : FilterNo) {d : Due} (hd : d.Sound) (start : Int) :
    DueLaw (s.setService f (.due d start)) := hs.setService f fun x hx => by cases hx; exact hd

theorem DueLaw.enqueue {s : State} (hs : DueLaw s) (f : FilterNo) : DueLaw (s.enqueue f) := hs.congr fun _ => by simp

theorem DueLaw.dequeue {s : State} (hs : DueLaw s) (f : FilterNo) : DueLaw (s.dequeue f) := hs.congr fun _ => by simp

theorem DueLaw.withHeader {s : State} (hs : DueLaw s) (h : Header) : DueLaw (s.withHeader h) := hs.congr fun _ => by simp

theorem DueLaw.sound {s : State} (hs : DueLaw s) {f : FilterNo} {x : Place} (h : s.place f = some x) : x.fields.Sound :=
  DueLaw.iff.1 hs f x h

theorem DueLaw.addReasons {s : State} (hs : DueLaw s) (f : FilterNo) (new : Reasons) : DueLaw (s.addReasons f new) := by
  refine s.addReasons_elim f new hs (fun start _ _ hn => ?_) (fun d start hd hr => ?_) (fun d start hd hr => ?_)
  · exact (hs.setService_due f (Due.sound_of_reasons hn _) start).enqueue f
  · have hsound : (d.reasons.join new).isNonempty = true := Reasons.isNonempty_join (hs.sound hd).reason
    exact ((hs.dequeue f).setService_due f (Due.sound_of_reasons hsound _) start).enqueue f
  · exact hs.setService_due f ((hs.sound hd).join hr) start

theorem DueLaw.returnToDue {s : State} (hs : DueLaw s) (f : FilterNo) (time : Option Nat) : DueLaw (s.returnToDue f time) := by
  refine s.returnToDue_elim f time (fun _ _ => hs) fun d start hd => ?_
  have hsound : d.Sound := hd.elim (fun h => hs.sound h) fun h => hs.sound h
  have hback : DueLaw ((s.setService f (.due { d with queueTime := time.getD d.queueTime } start)).enqueue f) :=
    (hs.setService_due f (hsound.requeued _) start).enqueue f
  unfold State.expireRunTime
  split
  · exact hback.addReasons f _
  · exact hback

theorem DueLaw.abortFilter {s : State} (hs : DueLaw s) (w : Wash) : DueLaw (s.abortFilter w) := by
  unfold State.abortFilter
  dsimp only
  have hmark : DueLaw (s.mapFilter w.filter fun x => { x with lastWash := some ⟨s.clock, w.abortOutcome⟩ }) :=
    hs.congr fun f => s.place_mapFilter w.filter f fun _ => rfl
  split
  · exact hmark.setService w.filter fun x hx => by cases hx
  · exact hmark.returnToDue w.filter none

theorem DueLaw.callFilter {s : State} (hs : DueLaw s) (f : FilterNo) : DueLaw (s.callFilter f) := by
  unfold State.callFilter
  split
  · rename_i d start h
    have hd : d.Sound := hs.sound (State.place_eq h)
    exact (hs.setService f fun x hx => by cases hx; exact hd).dequeue f
  · exact hs

@[simp] theorem State.place_select (s : State) (f g : FilterNo) (r : Filter) : (s.select f r).place g = (s.callFilter f).place g :=
  State.place_congr (by simp [State.select, State.withHeader]) g

theorem State.place_completeFilter_ne (s : State) {f g : FilterNo} (h : g ≠ f) : (s.completeFilter f).place g = s.place g :=
  s.place_setFilter_ne _ h

@[simp] theorem State.place_completeFilter (s : State) (f : FilterNo) : (s.completeFilter f).place f = none := by
  rw [State.completeFilter, State.mapFilter, State.place_setFilter]
  cases s.filter f <;> rfl

@[simp] theorem State.place_completeLoad (s : State) (intact : Bool) (f : FilterNo) : (s.completeLoad intact).place f = none := by
  rw [State.place, State.completeLoad_filter]
  cases (s.loadedContent intact).assignments.get f <;> rfl

@[simp] theorem State.place_restart (s : State) (rate0 rate1 : Bool) (f : FilterNo) : (s.restart rate0 rate1).place f = none := by
  simp [State.place, State.filter]

theorem DueLaw.of_noPlace {t : State} (h : ∀ f, t.place f = none) : DueLaw t :=
  DueLaw.iff.2 fun f x hx => by rw [h f] at hx; cases hx

theorem DueLaw.effect {s t : State} (h : Effect s t) (hs : DueLaw s) : DueLaw t := by
  cases h with
  | restart => exact .of_noPlace fun f => by simp
  | completeLoad => exact .of_noPlace fun f => by simp
  | setFilter f x place =>
    refine hs.congr fun g => ?_
    by_cases hg : g = f
    · subst hg; rw [State.place_setFilter, place]
    · exact s.place_setFilter_ne x hg
  | leaveQueue f v old new =>
    exact (hs.setService f fun x hx => by rw [new] at hx; cases hx).dequeue f
  | enterQueue f d start present old due => exact (hs.setService_due f due start).enqueue f
  | addReasons f new => exact hs.addReasons f new
  | select f r => exact (hs.callFilter f).congr fun g => s.place_select f g r
  | endCall w time => exact (hs.returnToDue w.filter time).withHeader .idle
  | holdCalled w reason => exact (hs.setService w.filter fun x hx => by cases hx).withHeader .idle
  | isolate w d start r since calling called =>
    have hd : d.Sound := hs.sound (State.place_eq called)
    exact (hs.setService w.filter fun x hx => by cases hx; exact hd).withHeader _
  | abortEntry w v r x cause n => exact DueLaw.abortFilter (hs.congr fun _ => by simp) w
  | completion w r n =>
    refine hs.update (f := w.filter) (fun g hg => ?_) fun x hx => ?_
    · rw [State.place_withHeader, State.place_completeFilter_ne _ hg, State.place_setOutputs]
    · simp at hx
  | _ => exact hs.congr (State.place_congr (by simp))

end Sys2Proof.Machine
end

section
/-! PROOFS. The claims of ports (O56) and the outputs (O57) under each effect. -/

namespace Sys2Proof.Machine

/-! ### Claims (R53, R54, R57, R126) -/

/-- Whether each port is attached is left as it was. -/
def State.SameAttached (s t : State) : Prop := ∀ p, (t.port p).state.isAttached = (s.port p).state.isAttached

theorem State.LatchesOnly.sameAttached {s t : State} (h : s.LatchesOnly t) : s.SameAttached t := fun p => by
  obtain ⟨l, hl⟩ := h p
  rw [hl]

theorem ClaimLaw.congr {s t : State} (hs : ClaimLaw s) (hp : s.SameAttached t) (hl : t.lock = s.lock) (hh : t.hold = s.hold)
    (ho : t.holder = s.holder) (hf : t.holdFlags = s.holdFlags) : ClaimLaw t where
  lock l h := hp l.holder ▸ hs.lock l (hl ▸ h)
  hold x h := by
    rw [hp x.port, ho]
    exact hs.hold x (hh ▸ h)
  flags p h := by
    rw [hp p, ho]
    exact hs.flags p (hf ▸ h)

theorem ClaimLaw.of_noClaims {t : State} (hl : t.lock = none) (hh : t.hold = none) (hf : t.holdFlags = ByPort.const false) :
    ClaimLaw t where
  lock l h := by rw [hl] at h; cases h
  hold x h := by rw [hh] at h; cases h
  flags p h := by rw [hf, ByPort.get_const] at h; cases h

/-- A port that ceases to be attached holds no claim. -/
theorem ClaimLaw.setPort {s : State} {p : PortNo} {q : Port} (hs : ClaimLaw s)
    (hq : (s.port p).state.isAttached = true → q.state.isAttached = true ∨ s.Claimless p) : ClaimLaw (s.setPort p q) := by
  have hport : ∀ i, (s.port i).state.isAttached = true → ¬ s.Claimless i →
      ((s.setPort p q).port i).state.isAttached = true := by
    intro i hi hc
    by_cases h : i = p
    · subst h
      rw [State.port_setPort]
      exact (hq hi).resolve_right hc
    · rwa [State.port_setPort_ne _ _ h]
  refine ⟨fun l hl => ?_, fun x hx => ?_, fun i hi => ?_⟩
  · exact hport _ (hs.lock l hl) fun hc => hc.lock l hl rfl
  · exact ⟨(hs.hold x hx).1, hport _ (hs.hold x hx).2 fun hc => hc.hold x hx rfl⟩
  · exact ⟨(hs.flags i hi).1, hport _ (hs.flags i hi).2 fun hc => by rw [State.setPort_holdFlags, hc.flag] at hi; cases hi⟩

/-- Under a hold the candidate is the hold port's (R45). -/
theorem State.owner_of_candidate {s : State} {h : Hold} {f : FilterNo} {r : Filter} (hh : s.hold = some h)
    (hc : s.candidate = some f) (hr : s.filter f = some r) : r.owner = h.port := by
  simp only [State.candidate, hh] at hc
  simpa [State.ownerOf, hr] using List.find?_some hc

/-- Where tenure stays with its holder, the claims stay. -/
theorem State.updateTenure_claims_same {s : State} {p : PortNo} (rival : Bool) (h : s.holder = some p) :
    (s.updateTenure p rival).holder = s.holder ∧ (s.updateTenure p rival).hold = s.hold ∧
      (s.updateTenure p rival).holdFlags = s.holdFlags := by
  unfold State.updateTenure
  rw [if_pos h]
  split <;> exact ⟨rfl, rfl, rfl⟩

/-- Where tenure passes, a waiting hold request of the new holder becomes the hold (R51, R53). -/
theorem State.updateTenure_claims_passed {s : State} {p : PortNo} (rival : Bool) (h : s.holder ≠ some p) :
    (s.updateTenure p rival).holder = some p ∧
      (s.updateTenure p rival).hold = (if s.holdFlags.get p then some ⟨p, s.clock⟩ else s.hold) ∧
      (s.updateTenure p rival).holdFlags = (if s.holdFlags.get p then s.holdFlags.set p false else s.holdFlags) := by
  rw [State.updateTenure, if_neg h]
  unfold State.passTenure
  cases s.holder <;> dsimp only <;> split <;> simp

theorem State.select_claims (s : State) (f : FilterNo) (r : Filter) (rival : Bool)
    (hrival : rival = s.rivalAt r.owner s.topClass) :
    (s.select f r).holder = ((s.callFilter f).updateTenure r.owner rival).holder ∧
      (s.select f r).hold = ((s.callFilter f).updateTenure r.owner rival).hold ∧
      (s.select f r).holdFlags = ((s.callFilter f).updateTenure r.owner rival).holdFlags := by
  subst hrival
  simp [State.select]

theorem ClaimLaw.select {s : State} {f : FilterNo} {r : Filter} (hs : ClaimLaw s) (candidate : s.candidate = some f)
    (present : s.filter f = some r) : ClaimLaw (s.select f r) := by
  have hp : s.SameAttached (s.select f r) := (State.latchesOnly_select s f r).sameAttached
  have hl : (s.select f r).lock = s.lock := by simp
  obtain ⟨ho, hh, hf⟩ := State.select_claims s f r _ rfl
  by_cases hsame : s.holder = some r.owner
  · obtain ⟨eo, eh, ef⟩ := State.updateTenure_claims_same (s := s.callFilter f) (p := r.owner)
      (s.rivalAt r.owner s.topClass) (by simpa using hsame)
    exact hs.congr hp hl (by rw [hh, eh]; simp) (by rw [ho, eo]; simp) (by rw [hf, ef]; simp)
  · obtain ⟨eo, eh, ef⟩ := State.updateTenure_claims_passed (s := s.callFilter f) (p := r.owner)
      (s.rivalAt r.owner s.topClass) (by simpa using hsame)
    have hcall : (s.callFilter f).holdFlags = s.holdFlags ∧ (s.callFilter f).hold = s.hold := by simp
    rw [hcall.1] at eh ef
    rw [hcall.2] at eh
    have hnone : s.hold = none := by
      refine Option.eq_none_iff_forall_ne_some.2 fun x hx => hsame ?_
      rw [State.owner_of_candidate hx candidate present]
      exact (hs.hold x hx).1
    refine ⟨fun l h => ?_, fun x h => ?_, fun p h => ?_⟩
    · rw [hp l.holder]
      exact hs.lock l (hl ▸ h)
    · rw [hh, eh, hnone] at h
      split at h
      · rename_i hflag
        cases h
        exact ⟨ho.trans eo, by rw [hp]; exact (hs.flags r.owner hflag).2⟩
      · cases h
    · rw [hf, ef] at h
      rw [ho, eo, hp p]
      by_cases hpr : p = r.owner
      · subst hpr
        split at h
        · rw [ByPort.get_set] at h; cases h
        · rename_i hflag
          exact absurd h hflag
      · refine ⟨fun e => hpr (Option.some.inj e).symm, (hs.flags p ?_).2⟩
        split at h
        · rwa [ByPort.get_set_ne _ _ hpr] at h
        · exact h

theorem ClaimLaw.effect {s t : State} (h : Effect s t) (hs : ClaimLaw s) : ClaimLaw t := by
  cases h with
  | restart => exact .of_noClaims (by simp) (by simp) (by simp)
  | completeLoad => exact .of_noClaims (by simp) (by simp) (by simp)
  | setPort p q replies count claims => exact hs.setPort claims
  | postAttached n =>
    exact hs.congr (fun p => by rw [State.port_postAttached]; split <;> rfl) (by simp) (by simp) (by simp) (by simp)
  | postPeers q =>
    exact hs.congr (fun p => by rw [State.port_postPeers]; split <;> rfl) (by simp) (by simp) (by simp) (by simp)
  | setLock l attached => exact ⟨attached, hs.hold, hs.flags⟩
  | setHold x flags hold flag =>
    exact ⟨hs.lock, fun y hy => (hold y hy).elim (hs.hold y) id, fun p hp => (flag p hp).elim (hs.flags p) id⟩
  | select f r idle candidate present => exact hs.select candidate present
  | _ => exact hs.congr (State.LatchesOnly.of_ports (by simp)).sameAttached (by simp) (by simp) (by simp) (by simp)

theorem ClaimLaw.reply {s : State} (hs : ClaimLaw s) (p : PortNo) (r : Reply) : ClaimLaw (s.reply p r) :=
  hs.setPort .inl

/-! ### Outputs (R90, R92, R95) -/

/-- The header is out of STEPPING. -/
def Header.Still (h : Header) : Prop := ∀ w r, h ≠ .stepping w r

theorem Header.Still.current {h : Header} (hs : h.Still) : h.current = none := by
  cases h with
  | stepping w r => exact absurd rfl (hs w r)
  | _ => rfl

theorem OutputLaw.of_still {t : State} (h : t.header.Still) (ho : t.outputs = Lines.allOff) : OutputLaw t :=
  ⟨fun w r e => absurd e (h w r), fun st e hc => (by rw [h.current] at hc; cases hc), fun _ => ho⟩

theorem OutputLaw.of_step {t : State} {w : Wash} {r : Run} {st : Step} (h : t.header = .stepping w r)
    (hst : w.stepAt r.step = some st) (ho : t.outputs = st.pattern r.elapsed) : OutputLaw t := by
  have hc : t.header.current = some (st, r.elapsed) := by rw [h, Header.current, hst]; rfl
  refine ⟨fun _ _ _ => by rw [hc]; rfl, fun st' e' h' => ?_, fun h' => ?_⟩
  · rw [hc] at h'
    cases h'
    exact ho
  · rw [hc] at h'
    cases h'

theorem OutputLaw.outputs_of_still {s : State} (hs : OutputLaw s) (h : s.header.Still) : s.outputs = Lines.allOff :=
  hs.others h.current

theorem OutputLaw.congr {s t : State} (hs : OutputLaw s) (hh : t.header = s.header) (ho : t.outputs = s.outputs) :
    OutputLaw t :=
  ⟨fun w r h => hh ▸ hs.stepping w r (hh ▸ h), fun st e h => by rw [ho]; exact hs.pattern st e (hh ▸ h),
    fun h => by rw [ho]; exact hs.others (hh ▸ h)⟩

/-- Short of its mark a second leaves the pattern of the step (R92, log 13). -/
theorem Step.pattern_second (st : Step) (r : Run) : st.pattern (r.second st).elapsed = st.pattern r.elapsed := by
  unfold Run.second
  split
  · rfl
  · rename_i h
    have hmark : decide (st.mark ≤ r.elapsed + 1) = decide (st.mark ≤ r.elapsed) := decide_eq_decide.2 (by omega)
    simp only [Step.pattern, hmark]

theorem Run.second_step (r : Run) (st : Step) : (r.second st).step = r.step := by
  unfold Run.second
  split <;> rfl

theorem OutputLaw.tick {s : State} (hs : OutputLaw s) : OutputLaw s.tick := by
  rcases s.tick_header with hh | ⟨w, r, st, hh, hst, ht⟩
  · exact hs.congr hh (by simp)
  · refine OutputLaw.of_step ht (by rwa [Run.second_step]) ?_
    rw [Step.pattern_second]
    simp only [State.tick_frame]
    exact hs.pattern st r.elapsed (by rw [hh, Header.current, hst]; rfl)

theorem OutputLaw.effect {s t : State} (h : Effect s t) (hs : OutputLaw s) : OutputLaw t := by
  have hidle : ∀ {x : Header}, s.header = x → x.Still → ∀ {u : State}, u.header.Still → u.outputs = s.outputs → OutputLaw u :=
    fun hx hst _ hu ho => .of_still hu (ho.trans (hs.outputs_of_still (hx ▸ hst)))
  cases h with
  | tick => exact hs.tick
  | restart => exact .of_still (fun _ _ h => by simp at h) (by simp)
  | completeLoad intact =>
    refine .of_still (fun w r h => ?_) (by simp)
    rw [State.completeLoad_header] at h
    split at h <;> cases h
  | setHeader h called washing still => exact .of_still still.2 (hs.outputs_of_still still.1)
  | mapWash g filter snapshot =>
    have hc := Header.mapWash_current snapshot s.header
    refine ⟨fun w r h => ?_, fun st e h => hs.pattern st e (hc ▸ h), fun h => hs.others (hc ▸ h)⟩
    refine hc ▸ ?_
    cases hh : s.header with
    | stepping w' r' => exact hh ▸ hs.stepping w' r' hh
    | _ => simp [hh, Header.mapWash] at h
  | select f r idle => exact hidle idle nofun (fun _ _ h => by simp [State.select] at h) (by simp)
  | endCall w time calling => exact hidle calling nofun (fun _ _ h => by simp [State.endCall] at h) (by simp)
  | holdCalled w reason calling => exact hidle calling nofun (fun _ _ h => by simp at h) (by simp)
  | isolate w d start r since calling => exact hidle calling nofun (fun _ _ h => by simp at h) (by simp)
  | drive w v r st n washing filter step => exact .of_step rfl step rfl
  | pause h v w n washing keeps filter still => exact .of_still still rfl
  | abortEntry w v r x cause n => exact .of_still (fun _ _ h => by simp at h) (by simp)
  | completion w r n => exact .of_still (fun _ _ h => by simp at h) (by simp)
  | _ => exact hs.congr (by simp) (by simp)

end Sys2Proof.Machine
end

section
/-! PROOFS. The rotation law under each effect (O55): the queue by its keys, and who is CALLED or WASHING by the header. -/

namespace Sys2Proof.Machine

/-! ### The queue (R25, R26) -/

/-- The queue holds the DUE filters and no other, in the order of R26. -/
structure QueueLaw (s : State) : Prop where
  order  : s.queue.Pairwise fun f g => s.precedes f g = true
  member : ∀ f, f ∈ s.queue ↔ s.isDue f = true

/-- What the order of R26 reads of due fields. -/
def Due.key (d : Due) : Class × Nat := (d.cls, d.queueTime)

/-- The order of R26 reads the keys alone. -/
theorem State.precedes_of_keys {s t : State} {f g : FilterNo}
    (hf : (t.dueFields f).map Due.key = (s.dueFields f).map Due.key)
    (hg : (t.dueFields g).map Due.key = (s.dueFields g).map Due.key) : t.precedes f g = s.precedes f g := by
  have hkeys : ∀ {x y : Option Due}, x.map Due.key = y.map Due.key → x = none ∧ y = none ∨
      ∃ d e, x = some d ∧ y = some e ∧ d.cls = e.cls ∧ d.queueTime = e.queueTime := by
    intro x y h
    cases x <;> cases y <;> simp_all [Due.key]
  unfold State.precedes
  rcases hkeys hf with ⟨h1, h2⟩ | ⟨d, e, h1, h2, hc, hq⟩ <;> rw [h1, h2]
  rcases hkeys hg with ⟨h3, h4⟩ | ⟨d', e', h3, h4, hc', hq'⟩ <;> rw [h3, h4]
  simp only [keyBefore, hc, hq, hc', hq']

theorem State.isDue_of_keys {s t : State} {f : FilterNo} (h : (t.dueFields f).map Due.key = (s.dueFields f).map Due.key) :
    t.isDue f = s.isDue f := by
  simpa [State.isDue] using congrArg Option.isSome h

theorem QueueLaw.congr {s t : State} (hs : QueueLaw s) (hq : t.queue = s.queue)
    (hk : ∀ f, (t.dueFields f).map Due.key = (s.dueFields f).map Due.key) : QueueLaw t where
  order := by
    simp only [State.precedes_of_keys (hk _) (hk _)]
    exact hq ▸ hs.order
  member f := by rw [hq, State.isDue_of_keys (hk f)]; exact hs.member f

theorem QueueLaw.congr_place {s t : State} (hs : QueueLaw s) (hq : t.queue = s.queue) (h : ∀ f, t.place f = s.place f) :
    QueueLaw t := hs.congr hq fun f => by rw [State.dueFields_of_place (h f)]

/-- The other entries keep their order. -/
theorem QueueLaw.order_others {s t : State} {f : FilterNo} (hs : QueueLaw s) (others : ∀ g, g ≠ f → t.place g = s.place g) :
    (s.queue.filter (· != f)).Pairwise fun g h => t.precedes g h = true := by
  refine (hs.order.filter _).imp_of_mem fun {g h} hg hh hp => ?_
  simp only [List.mem_filter, bne_iff_ne] at hg hh
  rwa [State.precedes_of_keys (s := s) (by rw [State.dueFields_of_place (others g hg.2)])
    (by rw [State.dueFields_of_place (others h hh.2)])]

theorem QueueLaw.isDue_other {s t : State} {f g : FilterNo} (others : ∀ g, g ≠ f → t.place g = s.place g) (h : g ≠ f) :
    t.isDue g = s.isDue g := by
  rw [State.isDue, State.isDue, State.dueFields_of_place (others g h)]

/-- A filter that is no longer DUE leaves the queue (R32). -/
theorem QueueLaw.removed {s t : State} {f : FilterNo} (hs : QueueLaw s) (hq : t.queue = s.queue.filter (· != f))
    (others : ∀ g, g ≠ f → t.place g = s.place g) (hf : t.isDue f = false) : QueueLaw t where
  order := hq ▸ hs.order_others others
  member g := by
    rw [hq, List.mem_filter, hs.member g]
    by_cases h : g = f
    · simp [h, hf]
    · simp [h, QueueLaw.isDue_other others h]

/-- A DUE filter takes its place in the queue, without the entry it had there, if any (R28, R31). -/
theorem QueueLaw.placed {s t : State} {f : FilterNo} (hs : QueueLaw s)
    (hq : t.queue = placeEntry (t.precedes f) f (s.queue.filter (· != f)))
    (others : ∀ g, g ≠ f → t.place g = s.place g) (hf : t.isDue f = true) : QueueLaw t where
  order := by
    rw [hq]
    refine t.pairwise_placeEntry f hf _ (fun g hg => ?_) (hs.order_others others)
    simp only [List.mem_filter, bne_iff_ne] at hg
    exact ⟨(QueueLaw.isDue_other others hg.2).trans ((hs.member g).1 hg.1), hg.2⟩
  member g := by
    rw [hq, mem_placeEntry, List.mem_filter, hs.member g]
    by_cases h : g = f
    · simp [h, hf]
    · simp [h, QueueLaw.isDue_other others h]

/-- A filter that is not DUE is not in the queue. -/
theorem QueueLaw.filter_queue {s : State} {f : FilterNo} (hs : QueueLaw s) (hf : s.isDue f = false) :
    s.queue.filter (· != f) = s.queue := by
  refine List.filter_eq_self.2 fun g hg => bne_iff_ne.2 fun h => ?_
  rw [h, hs.member f, hf] at hg
  cases hg

theorem State.isDue_of_place {s : State} {f : FilterNo} (h : ∀ d, s.place f ≠ some (.due d)) : s.isDue f = false := by
  rw [Bool.eq_false_iff]
  exact fun hd => let ⟨d, hd⟩ := State.isDue_iff.1 hd; h d hd

theorem State.isDue_setService {s : State} {f : FilterNo} (d : Due) (start : Int) (h : (s.filter f).isSome = true) :
    ((s.setService f (.due d start)).enqueue f).isDue f = true :=
  State.isDue_iff.2 ⟨d, by rw [State.place_enqueue, State.place_setService _ h]; rfl⟩

/-- A present filter that is not DUE becomes DUE and takes its place. -/
theorem QueueLaw.enter {s : State} {f : FilterNo} (hs : QueueLaw s) (hf : s.isDue f = false)
    (present : (s.filter f).isSome = true) (d : Due) (start : Int) :
    QueueLaw ((s.setService f (.due d start)).enqueue f) := by
  refine hs.placed (f := f) ?_ (fun g hg => ?_) (State.isDue_setService d start present)
  · rw [hs.filter_queue hf]
    simp only [State.enqueue, State.setService_frame]
    rfl
  · rw [State.place_enqueue, State.place_setService_ne _ _ hg]

/-- A filter that is not DUE takes a service state that is not DUE. -/
theorem QueueLaw.setService_out {s : State} {f : FilterNo} (hs : QueueLaw s) (hf : s.isDue f = false) {v : Service}
    (hv : ∀ d, v.place ≠ some (.due d)) : QueueLaw (s.setService f v) := by
  refine hs.congr (by simp) fun g => ?_
  by_cases h : g = f
  · subst h
    have hout : ∀ {u : State}, u.isDue g = false → u.dueFields g = none := fun hu => by simpa [State.isDue] using hu
    rw [hout hf, hout (State.isDue_of_place fun d hd => ?_)]
    cases hp : (s.filter g).isSome with
    | true => exact hv d (s.place_setService v hp ▸ hd)
    | false =>
      have hn : s.filter g = none := by simpa using hp
      simp [State.setService, State.mapFilter, hn] at hd
  · rw [State.dueFields_of_place (s.place_setService_ne v h)]

theorem QueueLaw.addReasons {s : State} (hs : QueueLaw s) (f : FilterNo) (new : Reasons) : QueueLaw (s.addReasons f new) := by
  refine s.addReasons_elim f new hs (fun start hp present _ => ?_) (fun d start hd _ => ?_) (fun d start hd _ => ?_)
  · exact hs.enter (State.isDue_of_place fun d hd => by rw [hp] at hd; cases hd) present _ start
  · refine hs.placed (f := f) ?_ (fun g hg => ?_)
      (State.isDue_setService _ start (State.filter_isSome_of_place ((s.place_dequeue f f).trans hd)))
    · simp only [State.enqueue, State.setService_frame]
      rfl
    · rw [State.place_enqueue, State.place_setService_ne _ _ hg, State.place_dequeue]
  · refine hs.congr (by simp) fun g => ?_
    by_cases h : g = f
    · subst h
      have hnew : (s.setService g (.due { d with reasons := d.reasons.join new } start)).place g =
          some (.due { d with reasons := d.reasons.join new }) := s.place_setService _ (State.filter_isSome_of_place hd)
      rw [State.dueFields_eq_some.2 hd, State.dueFields_eq_some.2 hnew]
      rfl
    · rw [State.dueFields_of_place (s.place_setService_ne _ h)]

theorem QueueLaw.expireRunTime {s : State} (hs : QueueLaw s) (f : FilterNo) : QueueLaw (s.expireRunTime f) := by
  unfold State.expireRunTime
  split
  · exact hs.addReasons f _
  · exact hs

/-- A filter with a place other than DUE is not DUE. -/
theorem State.isDue_of_engaged {s : State} {f : FilterNo} {d : Due}
    (h : s.place f = some (.called d) ∨ s.place f = some (.washing d)) : s.isDue f = false :=
  State.isDue_of_place fun e he => by rcases h with h | h <;> rw [h] at he <;> cases he

theorem QueueLaw.returnToDue {s : State} (hs : QueueLaw s) (f : FilterNo) (time : Option Nat) :
    QueueLaw (s.returnToDue f time) :=
  s.returnToDue_elim f time (fun _ _ => hs) fun _ start hd =>
    (hs.enter (State.isDue_of_engaged hd) (hd.elim State.filter_isSome_of_place State.filter_isSome_of_place) _ start).expireRunTime f

/-! ### CALLED and WASHING (R62) -/

/-- Whether a place is CALLED, and whether it is WASHING. -/
def Place.engages : Option Place → Bool × Bool
  | some (.called _) => (true, false)
  | some (.washing _) => (false, true)
  | some (.due _) | none => (false, false)

/-- Whether the header calls a filter, and whether it washes it. -/
def Header.engages (h : Header) (f : FilterNo) : Bool × Bool :=
  (h.calledFilter == some f, h.washing.map Wash.filter == some f)

/-- A filter is CALLED or WASHING exactly when the header is for it. -/
def CallLaw (s : State) : Prop := ∀ f, Place.engages (s.place f) = s.header.engages f

theorem State.engages_eq (s : State) (f : FilterNo) : Place.engages (s.place f) = (s.isCalled f, s.isWashing f) := by
  unfold State.place State.isCalled State.isWashing
  cases s.filter f with
  | none => rfl
  | some r => cases h : r.service <;> simp [Service.place, Place.engages, h]

theorem State.engages_iff (s : State) (f : FilterNo) :
    Place.engages (s.place f) = s.header.engages f ↔
      (s.isCalled f = true ↔ s.header.calledFilter = some f) ∧
        (s.isWashing f = true ↔ s.header.washing.map Wash.filter = some f) := by
  have hbool : ∀ {a b : Bool}, a = b ↔ (a = true ↔ b = true) := Bool.eq_iff_iff
  rw [State.engages_eq, Header.engages, Prod.mk.injEq, hbool, hbool (a := s.isWashing f), beq_iff_eq, beq_iff_eq]

theorem RotationLaw.iff {s : State} : RotationLaw s ↔ QueueLaw s ∧ CallLaw s :=
  ⟨fun h => ⟨⟨h.order, h.member⟩, fun f => (s.engages_iff f).2 ⟨h.called f, h.washing f⟩⟩,
    fun ⟨hq, hc⟩ => ⟨hq.order, hq.member, fun f => ((s.engages_iff f).1 (hc f)).1, fun f => ((s.engages_iff f).1 (hc f)).2⟩⟩

theorem CallLaw.congr {s t : State} (hs : CallLaw s) (hp : ∀ f, t.place f = s.place f)
    (hh : ∀ f, t.header.engages f = s.header.engages f) : CallLaw t := fun f => by rw [hp f, hh f]; exact hs f

/-- One filter changes its place, and the header its concern with that filter. -/
theorem CallLaw.update {s t : State} {f : FilterNo} (hs : CallLaw s) (others : ∀ g, g ≠ f → t.place g = s.place g)
    (headers : ∀ g, g ≠ f → t.header.engages g = s.header.engages g)
    (own : Place.engages (t.place f) = t.header.engages f) : CallLaw t := fun g => by
  by_cases h : g = f
  · subst h; exact own
  · rw [others g h, headers g h]; exact hs g

/-- The header concerns itself with no filter. -/
def Header.Free (h : Header) : Prop := ∀ f, h.engages f = (false, false)

/-- The header's filter is released. -/
theorem CallLaw.release {s t : State} {f : FilterNo} (hs : CallLaw s) (others : ∀ g, g ≠ f → t.place g = s.place g)
    (headers : ∀ g, g ≠ f → s.header.engages g = (false, false)) (own : Place.engages (t.place f) = (false, false))
    (ht : t.header.Free) : CallLaw t :=
  hs.update others (fun g hg => by rw [ht g, headers g hg]) (by rw [own, ht f])

theorem Header.engages_calling_ne {w : Wash} {g : FilterNo} (h : g ≠ w.filter) :
    (Header.calling w).engages g = (false, false) := by
  simp [Header.engages, Header.calledFilter, Header.washing, Ne.symm h]

theorem Header.engages_of_washing {h : Header} {w : Wash} (hw : h.washing = some w) (g : FilterNo) :
    h.engages g = (false, w.filter == g) := by
  cases h <;> simp_all [Header.engages, Header.calledFilter, Header.washing]

/-- A wash that can be aborted is of a CALLED or WASHING filter, and of no other. -/
theorem CallLaw.live {s : State} (hs : CallLaw s) {v : Wash} {x : Option Run} (hl : s.header.live = some (v, x)) :
    (∃ d, s.place v.filter = some (.called d) ∨ s.place v.filter = some (.washing d)) ∧
      ∀ g, g ≠ v.filter → s.header.engages g = (false, false) := by
  have hplace := hs v.filter
  have hcases : s.header = .calling v ∨ s.header.washing = some v := by
    cases hh : s.header <;> simp_all [Header.live, Header.washing]
  constructor
  · rcases hcases with hh | hh
    · cases hp : s.place v.filter with
      | none => simp [hh, hp, Place.engages, Header.engages, Header.calledFilter] at hplace
      | some y =>
        cases y with
        | called d => exact ⟨d, .inl rfl⟩
        | washing d => exact ⟨d, .inr rfl⟩
        | due d => simp [hh, hp, Place.engages, Header.engages, Header.calledFilter] at hplace
    · rw [Header.engages_of_washing hh] at hplace
      cases hp : s.place v.filter with
      | none => simp [hp, Place.engages] at hplace
      | some y =>
        cases y with
        | called d => exact ⟨d, .inl rfl⟩
        | washing d => exact ⟨d, .inr rfl⟩
        | due d => simp [hp, Place.engages] at hplace
  · intro g hg
    rcases hcases with hh | hh
    · rw [hh, Header.engages_calling_ne hg]
    · simp [Header.engages_of_washing hh, Ne.symm hg]

/-- A DUE filter to which reasons are added stays DUE. -/
theorem State.place_addReasons_due {s : State} {f : FilterNo} {d : Due} (new : Reasons) (h : s.place f = some (.due d)) :
    ∃ e, (s.addReasons f new).place f = some (.due e) := by
  have hf := State.filter_isSome_of_place h
  refine s.addReasons_elim (P := fun t => ∃ e, t.place f = some (.due e)) f new ⟨d, h⟩ (fun _ _ _ _ => ?_)
    (fun _ _ _ _ => ?_) (fun _ _ _ _ => ?_)
  · exact ⟨_, by rw [State.place_enqueue, State.place_setService _ hf]; rfl⟩
  · exact ⟨_, by rw [State.place_enqueue, State.place_setService (s := s.dequeue f) _ hf]; rfl⟩
  · exact ⟨_, by rw [State.place_setService _ hf]; rfl⟩

/-- A CALLED or WASHING filter that returns is DUE. -/
theorem State.place_returnToDue {s : State} {f : FilterNo} (time : Option Nat)
    (h : ∃ d, s.place f = some (.called d) ∨ s.place f = some (.washing d)) :
    ∃ e, (s.returnToDue f time).place f = some (.due e) := by
  obtain ⟨d, hd⟩ := h
  refine s.returnToDue_elim (P := fun t => ∃ e, t.place f = some (.due e)) f time (fun hc hw => ?_) fun e start _ => ?_
  · exact (hd.elim (hc d) (hw d)).elim
  · have hback : ((s.setService f (.due { e with queueTime := time.getD e.queueTime } start)).enqueue f).place f =
        some (.due { e with queueTime := time.getD e.queueTime }) := by
      rw [State.place_enqueue, State.place_setService _ (hd.elim State.filter_isSome_of_place State.filter_isSome_of_place)]
      rfl
    unfold State.expireRunTime
    split
    · exact State.place_addReasons_due _ hback
    · exact ⟨_, hback⟩

/-- Reasons for a filter leave who is CALLED and who is WASHING. -/
theorem State.engages_addReasons (s : State) (f g : FilterNo) (new : Reasons) :
    Place.engages ((s.addReasons f new).place g) = Place.engages (s.place g) := by
  by_cases h : g = f
  · subst h
    refine s.addReasons_elim (P := fun t => Place.engages (t.place g) = Place.engages (s.place g)) g new rfl
      (fun _ hp present _ => ?_) (fun _ _ hd _ => ?_) (fun _ _ hd _ => ?_)
    · rw [State.place_enqueue, State.place_setService _ present, hp]; rfl
    · rw [State.place_enqueue, State.place_setService (s := s.dequeue g) _ (State.filter_isSome_of_place hd), hd]; rfl
    · rw [State.place_setService _ (State.filter_isSome_of_place hd), hd]; rfl
  · rw [s.place_addReasons_ne new h]

/-! ### Abort entry and selection -/

theorem State.place_mark (s : State) (w : Wash) (x : LastWash) (f : FilterNo) :
    (s.mapFilter w.filter fun r => { r with lastWash := some x }).place f = s.place f :=
  s.place_mapFilter w.filter f fun _ => rfl

theorem QueueLaw.abortFilter {s : State} (hs : QueueLaw s) {w : Wash} (hf : s.isDue w.filter = false) :
    QueueLaw (s.abortFilter w) := by
  have hmark := s.place_mark w ⟨s.clock, w.abortOutcome⟩
  have hs' := hs.congr_place (by simp) hmark
  unfold State.abortFilter
  dsimp only
  split
  · refine hs'.setService_out (State.isDue_of_place fun d hd => ?_) nofun
    rw [hmark] at hd
    rw [State.isDue_iff.2 ⟨d, hd⟩] at hf
    cases hf
  · exact hs'.returnToDue w.filter none

theorem State.place_abortFilter_ne (s : State) {w : Wash} {g : FilterNo} (h : g ≠ w.filter) :
    (s.abortFilter w).place g = s.place g := by
  unfold State.abortFilter
  dsimp only
  split
  · rw [State.place_setService_ne _ _ h, State.place_mark]
  · rw [State.place_returnToDue_ne _ _ h, State.place_mark]

/-- The filter of an aborted wash is HELD_OUT or DUE (R84). -/
theorem State.engages_abortFilter {s : State} {w : Wash}
    (h : ∃ d, s.place w.filter = some (.called d) ∨ s.place w.filter = some (.washing d)) :
    Place.engages ((s.abortFilter w).place w.filter) = (false, false) := by
  have hmark := s.place_mark w ⟨s.clock, w.abortOutcome⟩ w.filter
  rw [← hmark] at h
  obtain ⟨d, hd⟩ := h
  unfold State.abortFilter
  dsimp only
  split
  · rw [State.place_setService _ (hd.elim State.filter_isSome_of_place State.filter_isSome_of_place)]
    rfl
  · obtain ⟨e, he⟩ := State.place_returnToDue none ⟨d, hd⟩
    rw [he]
    rfl

/-- A candidate stands in the queue. -/
theorem State.mem_queue_of_candidate {s : State} {f : FilterNo} (h : s.candidate = some f) : f ∈ s.queue := by
  have hmem : f ∈ s.eligibleEntries := by
    unfold State.candidate at h
    split at h
    · exact List.mem_of_find?_eq_some h
    · rcases Option.or_eq_some_iff.1 h with hp | ⟨-, hh⟩
      · unfold State.preferred at hp
        split at hp
        · split at hp
          · exact List.mem_of_find?_eq_some hp
          · cases hp
        · cases hp
      · exact List.mem_of_head? hh
  exact (List.mem_filter.1 hmem).1

/-- The call of a DUE filter (R50). -/
theorem State.callFilter_due {s : State} {f : FilterNo} {d : Due} (h : s.place f = some (.due d)) :
    ∃ start, s.callFilter f = (s.setService f (.called d start)).dequeue f := by
  obtain ⟨r, hr, hv⟩ := Option.bind_eq_some_iff.1 h
  cases hs : r.service with
  | due e start =>
    rw [hs] at hv
    cases hv
    exact ⟨start, by rw [State.callFilter, hr, Option.map_some, hs]⟩
  | _ => rw [hs] at hv; cases hv

@[simp] theorem State.select_queue (s : State) (f : FilterNo) (r : Filter) : (s.select f r).queue = (s.callFilter f).queue := by
  simp [State.select]

theorem RotationLaw.select {s : State} {f : FilterNo} {r : Filter} (hq : QueueLaw s) (hc : CallLaw s) (idle : s.header = .idle)
    (candidate : s.candidate = some f) : QueueLaw (s.select f r) ∧ CallLaw (s.select f r) := by
  obtain ⟨d, hd⟩ := State.isDue_iff.1 ((hq.member f).1 (State.mem_queue_of_candidate candidate))
  obtain ⟨start, hcall⟩ := State.callFilter_due hd
  have others : ∀ g, g ≠ f → (s.select f r).place g = s.place g := fun g hg => by
    rw [State.place_select, hcall, State.place_dequeue, State.place_setService_ne _ _ hg]
  have own : (s.select f r).place f = some (.called d) := by
    rw [State.place_select, hcall, State.place_dequeue, State.place_setService _ (State.filter_isSome_of_place hd)]
    rfl
  have hheader : (s.select f r).header = .calling (s.openWash f r) := by simp [State.select]
  constructor
  · refine hq.removed (f := f) ?_ others (State.isDue_of_place fun e he => by rw [own] at he; cases he)
    rw [State.select_queue, hcall]
    simp [State.dequeue]
  · refine hc.update others (fun g hg => ?_) ?_
    · rw [hheader, idle, Header.engages_calling_ne hg]
      rfl
    · rw [own, hheader]
      simp [Place.engages, Header.engages, Header.calledFilter, Header.washing, State.openWash]

/-! ### The law -/

theorem RotationLaw.of_noPlace {t : State} (hp : ∀ f, t.place f = none) (hq : t.queue = []) (hh : t.header.Free) :
    RotationLaw t := by
  refine RotationLaw.iff.2 ⟨⟨by rw [hq]; exact List.Pairwise.nil, fun f => ?_⟩, fun f => by rw [hp f, hh f]; rfl⟩
  rw [hq, State.isDue_of_place fun d hd => by rw [hp f] at hd; cases hd]
  simp

theorem RotationLaw.effect {s t : State} (h : Effect s t) (hs : RotationLaw s) : RotationLaw t := by
  obtain ⟨hq, hc⟩ := RotationLaw.iff.1 hs
  have hsame : ∀ {u : State}, (∀ f, u.place f = s.place f) → u.queue = s.queue →
      (∀ f, u.header.engages f = s.header.engages f) → RotationLaw u := fun hp hqu hh =>
    RotationLaw.iff.2 ⟨hq.congr_place hqu hp, hc.congr hp hh⟩
  refine RotationLaw.iff.2 ?_
  cases h with
  | restart => exact RotationLaw.iff.1 (.of_noPlace (fun f => by simp) (by simp) fun f => by simp; rfl)
  | completeLoad intact =>
    refine RotationLaw.iff.1 (.of_noPlace (fun f => by simp) (by simp) fun f => ?_)
    rw [State.completeLoad_header]
    split <;> rfl
  | tick =>
    refine RotationLaw.iff.1 (hsame (State.place_congr (by simp)) (by simp) fun f => ?_)
    rcases s.tick_header with ht | ⟨w, r, st, hh, -, ht⟩
    · rw [ht]
    · rw [ht, hh]; rfl
  | setFilter f x place =>
    refine RotationLaw.iff.1 (hsame (fun g => ?_) (by simp) fun _ => rfl)
    by_cases hg : g = f
    · subst hg; rw [State.place_setFilter, place]
    · exact s.place_setFilter_ne x hg
  | leaveQueue f v old new =>
    have others : ∀ g, g ≠ f → ((s.setService f v).dequeue f).place g = s.place g := fun g hg => by
      rw [State.place_dequeue, State.place_setService_ne _ _ hg]
    have own : ((s.setService f v).dequeue f).place f = none := by
      cases hf : s.filter f with
      | none => simp [State.setService, State.mapFilter, hf]
      | some r => rw [State.place_dequeue, State.place_setService _ (by rw [hf]; rfl), new]
    refine ⟨hq.removed (by simp [State.dequeue]) others (State.isDue_of_place fun d hd => by rw [own] at hd; cases hd),
      hc.update others (fun g _ => by simp) ?_⟩
    have hold := hc f
    cases hp : s.place f with
    | none => rw [own, ← hp, hold]; simp
    | some x =>
      obtain ⟨d, rfl⟩ := old x hp
      rw [hp] at hold
      rw [own]
      simpa [Place.engages] using hold
  | enterQueue f d start present old =>
    refine ⟨hq.enter (State.isDue_of_place fun d hd => by rw [old] at hd; cases hd) present d start,
      hc.update (f := f) (fun g hg => by rw [State.place_enqueue, State.place_setService_ne _ _ hg]) (fun g _ => by simp) ?_⟩
    have hold := hc f
    rw [old] at hold
    rw [State.place_enqueue, State.place_setService _ present]
    simpa [Place.engages, Service.place] using hold
  | addReasons f new =>
    exact ⟨hq.addReasons f new, fun g => by rw [State.engages_addReasons]; simpa using hc g⟩
  | setHeader h called washing =>
    refine RotationLaw.iff.1 (hsame (fun _ => by simp) (by simp) fun f => ?_)
    rw [State.header_withHeader, Header.engages, Header.engages, called, washing]
  | mapWash g filter =>
    refine RotationLaw.iff.1 (hsame (State.place_congr rfl) rfl fun f => ?_)
    have hw : (fun w => (g w).filter) = Wash.filter := funext filter
    simp only [Header.engages, Header.mapWash_calledFilter filter, Header.mapWash_washing, Option.map_map, Function.comp_def, hw]
  | select f r idle candidate => exact RotationLaw.select hq hc idle candidate
  | endCall w time calling =>
    obtain ⟨hplace, hothers⟩ := hc.live (v := w) (by rw [calling]; rfl)
    refine ⟨(hq.returnToDue w.filter time).congr_place (by simp [State.endCall]) fun _ => by simp [State.endCall],
      hc.release (fun g hg => ?_) hothers ?_ fun _ => by simp [State.endCall]; rfl⟩
    · rw [State.endCall, State.place_withHeader, State.place_returnToDue_ne _ _ hg]
    · obtain ⟨e, he⟩ := State.place_returnToDue time hplace
      rw [State.endCall, State.place_withHeader, he]
      rfl
  | holdCalled w reason calling =>
    obtain ⟨⟨d, hd⟩, hothers⟩ := hc.live (v := w) (by rw [calling]; rfl)
    refine ⟨(hq.setService_out (v := .heldOut reason) (State.isDue_of_engaged hd) nofun).congr_place (by simp) fun _ => by simp,
      hc.release (fun g hg => ?_) hothers ?_ fun _ => rfl⟩
    · rw [State.place_withHeader, State.place_setService_ne _ _ hg]
    · rw [State.place_withHeader,
        State.place_setService _ (hd.elim State.filter_isSome_of_place State.filter_isSome_of_place)]
      rfl
  | isolate w d start r since calling called =>
    obtain ⟨⟨e, he⟩, hothers⟩ := hc.live (v := w) (by rw [calling]; rfl)
    refine ⟨(hq.setService_out (v := .washing d start) (State.isDue_of_engaged he) nofun).congr_place (by simp) fun _ => by simp,
      hc.update (f := w.filter) (fun g hg => ?_) (fun g hg => ?_) ?_⟩
    · rw [State.place_withHeader, State.place_setService_ne _ _ hg]
    · rw [hothers g hg, Header.engages_of_washing (w := w) rfl]
      simp [Ne.symm hg]
    · rw [State.place_withHeader,
        State.place_setService _ (he.elim State.filter_isSome_of_place State.filter_isSome_of_place),
        Header.engages_of_washing (w := w) rfl]
      simp [Place.engages, Service.place]
  | drive w v r st n washing filter step =>
    refine RotationLaw.iff.1 (hsame (fun _ => by simp) rfl fun f => ?_)
    rw [Header.engages_of_washing washing, Header.engages_of_washing (w := w) rfl, filter]
  | pause h v w n washing keeps filter still =>
    refine RotationLaw.iff.1 (hsame (fun _ => by simp) rfl fun f => ?_)
    rw [Header.engages_of_washing washing, State.header_withHeader, Header.engages_of_washing keeps, filter]
  | abortEntry w v r x cause n live filter =>
    obtain ⟨hplace, hothers⟩ := hc.live live
    rw [← filter] at hplace hothers
    have hsame' : ∀ g, ((s.setOutputs Lines.allOff n).withHeader (.aborting w r cause)).place g = s.place g := fun g => by simp
    have hq' : QueueLaw ((s.setOutputs Lines.allOff n).withHeader (.aborting w r cause)) := hq.congr_place rfl hsame'
    obtain ⟨d, hd⟩ := hplace
    simp only [← hsame'] at hd
    refine ⟨hq'.abortFilter (State.isDue_of_engaged hd), hc.release (fun g hg => ?_) hothers
      (State.engages_abortFilter ⟨d, hd⟩) fun _ => by simp; rfl⟩
    rw [State.place_abortFilter_ne _ hg, hsame']
  | completion w r n since taken stepping =>
    have hl : s.header.live = some (w, some r) := by rw [stepping]; rfl
    obtain ⟨⟨d, hd⟩, hothers⟩ := hc.live hl
    have others : ∀ g, g ≠ w.filter →
        (((s.setOutputs Lines.allOff n).completeFilter w.filter).withHeader (.settling since taken)).place g = s.place g :=
      fun g hg => by rw [State.place_withHeader, State.place_completeFilter_ne _ hg, State.place_setOutputs]
    refine ⟨hq.removed (f := w.filter) ?_ others (State.isDue_of_place fun e he => by simp at he),
      hc.release others hothers (by simp; rfl) fun _ => rfl⟩
    rw [hq.filter_queue (State.isDue_of_engaged hd)]
    simp
  | _ => exact RotationLaw.iff.1 (hsame (State.place_congr (by simp)) (by simp) fun f => by simp)

end Sys2Proof.Machine
end

section
/-! PROOFS. The laws kept by every step (O55 to O58), each from the effects of a step; the laws of RESET (O59). -/

namespace Sys2Proof.Proofs.StepLaws

open Sys2Proof.Machine

/-- A law of every effect that does not read the reply queues is kept by every step. -/
theorem keeps_of_effect {P : State → Prop} (he : ∀ s t, Effect s t → P s → P t)
    (hr : ∀ s p r, P s → P (s.reply p r)) {s t : State} (h : step s = .next t) (hs : P s) : P t :=
  step_keeps he (fun s p r _ => hr s p r) h hs

/-- Settles O55: every effect keeps the queue by its keys and the calls by the header. -/
theorem everyStepKeepsTheRotationLaw : Obligations.EveryStepKeepsTheRotationLaw := by
  unfold Obligations.EveryStepKeepsTheRotationLaw
  intro s s' hs h
  refine keeps_of_effect (fun _ _ => RotationLaw.effect) (fun s p r hs => ?_) h hs
  obtain ⟨hq, hc⟩ := RotationLaw.iff.1 hs
  exact RotationLaw.iff.2 ⟨hq.congr_place rfl (State.place_congr rfl), hc.congr (State.place_congr rfl) fun _ => rfl⟩

/-- Settles O56: an effect takes attachment from a port only where the port holds no claim. -/
theorem everyStepKeepsTheClaims : Obligations.EveryStepKeepsTheClaims := by
  unfold Obligations.EveryStepKeepsTheClaims
  intro s s' hs h
  exact keeps_of_effect (fun _ _ => ClaimLaw.effect) (fun _ p r hs => hs.reply p r) h hs

/-- Settles O57: an effect that enters or leaves STEPPING drives the outputs with it. -/
theorem everyStepKeepsTheOutputs : Obligations.EveryStepKeepsTheOutputs := by
  unfold Obligations.EveryStepKeepsTheOutputs
  intro s s' hs h
  exact keeps_of_effect (fun _ _ => OutputLaw.effect) (fun _ p r hs => hs.congr rfl rfl) h hs

/-- Settles O58: every effect keeps each of the laws on its own. -/
theorem everyStepKeepsTheStoredLaws : Obligations.EveryStepKeepsTheStoredLaws := by
  unfold Obligations.EveryStepKeepsTheStoredLaws
  intro s s' h
  exact ⟨keeps_of_effect (fun _ _ => BasinLaw.effect) (fun _ _ _ hs => hs.congr rfl rfl) h,
    keeps_of_effect (fun _ _ => ActiveBankLaw.effect) (fun _ _ _ hs => hs.congr_filters rfl rfl rfl rfl rfl rfl rfl) h,
    keeps_of_effect (fun _ _ => SwitchLaw.effect) (fun _ _ _ hs => hs.congr rfl rfl) h,
    keeps_of_effect (fun _ _ => BudgetLaw.effect) (fun _ _ _ hs => hs.congr rfl rfl) h,
    step_keeps (fun _ _ => PortLaw.effect) (fun _ _ r hroom hs => hs.reply r hroom) h,
    keeps_of_effect (fun _ _ => HistoryLaw.effect) (fun _ _ _ hs => hs.congr rfl rfl) h,
    keeps_of_effect (fun _ _ => StoreLaw.effect) (fun _ _ _ hs => hs.congr rfl rfl) h,
    keeps_of_effect (fun _ _ => DueLaw.effect) (fun _ _ _ hs => hs.congr (State.place_congr rfl)) h⟩

/-- Settles O59: after RESET there are no filters, no claims and no transaction. -/
theorem resetMeetsTheLaws : Obligations.ResetMeetsTheLaws := by
  unfold Obligations.ResetMeetsTheLaws
  have hplace : ∀ f, State.reset.place f = none := fun f => by simp [State.place, State.filter, State.reset]
  refine ⟨.of_noPlace hplace rfl fun _ => rfl, .of_noClaims rfl rfl rfl, .of_still nofun rfl, ?_, nofun, .of_none rfl, ?_,
    .of_start fun p => by simp [State.port, State.reset], .of_empty rfl rfl, nofun, .of_noPlace hplace⟩
  · exact Nat.le_refl 400000
  · exact Nat.zero_le _

/-- Settles O1: the step takes the head of the queue by its definition. -/
theorem stepRunsTheFrontCommand : Obligations.StepRunsTheFrontCommand := by
  unfold Obligations.StepRunsTheFrontCommand
  intro c rest s h
  rw [step, h]

/-- Settles O4: no arm of the dispatch is a fault or a refusal. -/
theorem everyCommandAnswersANextState : Obligations.EveryCommandAnswersANextState := by
  unfold Obligations.EveryCommandAnswersANextState
  intro c s
  cases c <;> exact ⟨_, rfl⟩

end Sys2Proof.Proofs.StepLaws
end

section
/-! PROOFS. Start, time and the good frame: RESET (O5), the image load (O6), a good frame (O7), the passing of time (O2). -/

namespace Sys2Proof.Machine

/-! ### States that differ in their ports alone -/

/-- Only the ports of `t` may differ from those of `s`. -/
def State.PortsOnly (s t : State) : Prop := { t with ports := s.ports } = s

namespace State.PortsOnly

theorem refl (s : State) : s.PortsOnly s := rfl

theorem trans {s t u : State} (h : s.PortsOnly t) (h' : t.PortsOnly u) : s.PortsOnly u :=
  calc ({ u with ports := s.ports } : State)
      = { ({ u with ports := t.ports } : State) with ports := s.ports } := rfl
    _ = { t with ports := s.ports } := by rw [h']
    _ = s := h

theorem setPort {s t : State} (h : s.PortsOnly t) (p : PortNo) (q : Port) : s.PortsOnly (t.setPort p q) := h

theorem postTo {s t : State} (h : s.PortsOnly t) (p : PortNo) (n : Notice) : s.PortsOnly (t.postTo p n) := h

theorem postAttached {s t : State} (h : s.PortsOnly t) (n : Notice) : s.PortsOnly (t.postAttached n) := h

theorem postPeers {s t : State} (h : s.PortsOnly t) (p : PortNo) : s.PortsOnly (t.postPeers p) := h

theorem goodFrame {s t : State} (h : s.PortsOnly t) (p : PortNo) : s.PortsOnly (t.goodFrame p) := by
  unfold State.goodFrame
  dsimp only
  split <;> exact h

end State.PortsOnly

/-- At another port a good frame tells of a QUIET port that becomes ATTACHED (R155). -/
theorem State.port_goodFrame_ne (s : State) {p i : PortNo} (h : i ≠ p) :
    (s.goodFrame p).port i =
      if (s.port p).state = .quiet ∧ (s.port i).state.isAttached = true then (s.port i).post (.peer p .attached)
      else s.port i := by
  by_cases hq : (s.port p).state = .quiet
  · simp [State.goodFrame, hq, State.port_postPeers, State.setPortState, h, State.port_setPort_ne _ _ h]
  · simp [State.goodFrame, hq, State.port_setPort_ne _ _ h]

/-- A filter that starts afresh counts as no filter in service. -/
theorem State.completeLoad_inServiceCount (s : State) (intact : Bool) : (s.completeLoad intact).inServiceCount = 0 := by
  unfold State.inServiceCount
  refine List.countP_eq_zero.2 fun r hr => ?_
  simp only [State.completeLoad, State.withHeader, State.startUp, Table.map, List.mem_map] at hr
  obtain ⟨a, -, rfl⟩ := hr
  cases a <;> simp [Filter.fresh, Service.inCount]

/-! ### The tick -/

theorem State.tick_of_lt {s : State} (h : s.hundredth < 99) :
    s.tick = { s.runInputs.ageStore with hundredth := s.hundredth + 1 } := by
  have h' : s.runInputs.ageStore.hundredth < 99 := h
  rw [State.tick, if_pos h']
  rfl

theorem State.tick_of_ge {s : State} (h : 99 ≤ s.hundredth) :
    s.tick = ({ s.runInputs.ageStore with hundredth := 0 } : State).newSecond := by
  have h' : ¬ s.runInputs.ageStore.hundredth < 99 := Nat.not_lt.2 h
  rw [State.tick, if_neg h']

/-- What the step timer does to a header at a new second (R74). -/
def Header.atSecond (h : Header) : Header :=
  match h with
  | .stepping w r =>
    match w.stepAt r.step with
    | some st => .stepping w (r.second st)
    | none => h
  | _ => h

theorem Header.atSecond_stepping {w : Wash} {r : Run} {st : Step} (hst : w.stepAt r.step = some st) :
    (Header.stepping w r).atSecond = .stepping w (r.second st) := by
  simp [Header.atSecond, hst]

theorem Header.atSecond_of_current {h : Header} (hc : h.current = none) : h.atSecond = h := by
  cases h with
  | stepping w r =>
    have hst : w.stepAt r.step = none := by simpa [Header.current] using hc
    simp [Header.atSecond, hst]
  | _ => rfl

theorem State.stepSecond_eq (s : State) : s.stepSecond = s.withHeader s.header.atSecond := by
  have hself : ∀ {h : Header}, s.header = h → h.current = none → s = s.withHeader h.atSecond := fun hh hc => by
    rw [Header.atSecond_of_current hc, ← hh]
    rfl
  unfold State.stepSecond
  split
  · rename_i w r hh
    rw [hh]
    split
    · rename_i st hst
      rw [Header.atSecond_stepping hst]
    · rename_i hst
      exact hself hh (by rw [Header.current, hst]; rfl)
  · rename_i hh
    exact hself rfl (Header.Still.current hh)

end Sys2Proof.Machine

namespace Sys2Proof.Proofs.Start

open Sys2Proof.Machine

/-- Settles O5: the fields of the state that RESET sets. -/
theorem resetBeginsTheLoad : Obligations.ResetBeginsTheLoad := by
  unfold Obligations.ResetBeginsTheLoad
  intro rate0 rate1 s
  refine ⟨s.restart rate0 rate1, rfl, rfl, rfl, rfl, rfl, rfl, rfl, rfl, fun i => ?_, fun p => ?_, rfl, rfl, rfl, rfl,
    fun p => ?_, rfl, rfl, rfl, rfl, rfl, rfl, rfl, ?_, ?_, rfl⟩
  · simp [State.asserted, State.restart, InputLine.restart, InputLine.start]
  · simp [State.port]
  · simp
  · unfold State.restart State.imageAtReset
    dsimp only
    split <;> rfl
  · unfold State.restart State.imageAtReset
    dsimp only
    cases s.storing <;> simp

/-- Settles O6: the start-up state is that of RESET under the content that the load uses. -/
theorem theLoadSetsTheStartUpState : Obligations.TheLoadSetsTheStartUpState := by
  unfold Obligations.TheLoadSetsTheStartUpState
  intro intact s n hload
  have hexec : exec (.imageLoadComplete intact) s = .next (s.completeLoad intact) := by
    simp only [exec, execImageLoadComplete, evImageLoadComplete, hload]
  have hcontent : s.loadedContent intact =
      if s.image.valid = true ∧ intact = true then s.image.content else Content.default := by
    simp only [State.loadedContent, Bool.and_eq_true]
  refine ⟨s.completeLoad intact, s.loadedContent intact, hexec, hcontent, rfl, rfl, rfl, rfl, rfl, rfl,
    s.completeLoad_filter intact, s.completeLoad_inServiceCount intact, rfl, rfl, rfl, rfl, rfl, rfl, rfl, rfl, rfl, rfl, rfl,
    rfl, rfl, fun i => ?_, fun p => ?_, rfl, s.completeLoad_header intact⟩
  · simp [State.asserted, State.completeLoad, State.withHeader, State.startUp, InputLine.restart, InputLine.start]
  · simp [State.port]

/-- Settles O7: the port itself, and PEER to the others where it was QUIET. -/
theorem aGoodFrameCountsForThePort : Obligations.AGoodFrameCountsForThePort := by
  unfold Obligations.AGoodFrameCountsForThePort
  intro s p
  exact ⟨s.port_goodFrame p, fun i hi => s.port_goodFrame_ne hi, (State.PortsOnly.refl s).goodFrame p⟩

theorem step_loading {s : State} {n : Nat} (hp : s.pending = []) (hload : s.phase = .loading n) :
    step s = .next (s.idleLoading n) := by
  rw [step, hp]
  dsimp only
  rw [State.idle, hload]

theorem step_settled {s : State} (hp : s.pending = []) (h : Settled s) :
    step s = .next ((s.nextDue.getD State.tick) s) := by
  rw [step, hp]
  dsimp only
  rw [State.idle, h.running]
  simp only [State.idleRunning, h.atOnce]

/-- A second ends: the clock, the accrual and the step timer (R74, R113). -/
theorem second_spec {s : State} (h : s.hundredth = 99) :
    (s.clock < 4294967295 → s.tick.clock = s.clock + 1 ∧ s.tick.draws = s.draws) ∧
      (4294967295 ≤ s.clock → s.tick.clock < 4294967296) ∧
      s.tick.hundredth = 0 ∧
      s.tick.inputs = s.inputs.map (fun x => { x with run := x.run + 1 }) ∧
      s.tick.storing = s.storing.map (fun w => { w with age := w.age + 1 }) ∧
      s.tick.accrual = some ⟨s.pumpFlow, if s.asserted .returnRun = true then s.plant.returnRate else 0, false, false⟩ ∧
      s.tick.header = s.header.atSecond ∧
      { s.tick with
        clock := s.clock
        draws := s.draws
        hundredth := s.hundredth
        accrual := s.accrual
        header := s.header
        inputs := s.inputs
        storing := s.storing } = s := by
  have hasserted : ({ s.runInputs.ageStore with hundredth := 0 } : State).asserted .returnRun = s.asserted .returnRun := by
    simp [State.asserted, State.runInputs, State.ageStore]
  have haccrual : ({ s.runInputs.ageStore with hundredth := 0 } : State).openAccrual.accrual =
      some ⟨s.pumpFlow, if s.asserted .returnRun = true then s.plant.returnRate else 0, false, false⟩ := by
    rw [State.openAccrual, hasserted]
    rfl
  have htick := State.tick_of_ge (Nat.le_of_eq h.symm)
  rw [State.newSecond, State.stepSecond_eq, State.advanceClock] at htick
  split at htick
  · rename_i hc
    have hc : s.clock < 4294967295 := hc
    rw [htick]
    exact ⟨fun _ => ⟨rfl, rfl⟩, fun h' => absurd hc (Nat.not_lt.2 h'), rfl, rfl, rfl, haccrual, rfl, rfl⟩
  · rename_i hc
    have hc : ¬ s.clock < 4294967295 := hc
    rw [htick]
    exact ⟨fun h' => absurd h' hc, fun _ => (Config.clockAfterLast s.draws).isLt, rfl, rfl, rfl, haccrual, rfl, rfl⟩

/-- Settles O2: the idle step of a loading and of a settled part. -/
theorem anEmptyQueueLetsTimePass : Obligations.AnEmptyQueueLetsTimePass := by
  unfold Obligations.AnEmptyQueueLetsTimePass
  intro s hp
  refine ⟨fun n hload => ⟨fun hn => ?_, fun hn => ⟨Config.imageIntegrity s.draws, ?_⟩⟩, fun h e he => ?_, fun h hn hlt => ?_,
    fun h hn hlast => ⟨s.tick, ?_, ?_⟩⟩
  · rw [step_loading hp hload, State.idleLoading, if_neg (by unfold loadSteps; omega)]
  · rw [step_loading hp hload, State.idleLoading, if_pos (by unfold loadSteps; omega)]
    simp only [exec, execImageLoadComplete, evImageLoadComplete, hload]
    rfl
  · rw [step_settled hp h, he]
    rfl
  · rw [step_settled hp h, hn, Option.getD_none, State.tick_of_lt hlt]
    rfl
  · rw [step_settled hp h, hn]
    rfl
  · obtain ⟨hclock, hlastClock, hh, hi, hst, ha, hheader, hrest⟩ := second_spec hlast
    refine ⟨hclock, hlastClock, hh, hi, hst, ha, fun w r st hhd hstep => ?_, fun hc => ?_, hrest⟩
    · rw [hheader, hhd, Header.atSecond_stepping hstep, Run.second]
      congr 1
      by_cases hlt : r.elapsed + 1 < st.duration ∧ r.elapsed + 1 ≠ st.mark
      · rw [if_pos hlt, if_neg (by omega)]
      · rw [if_neg hlt, if_pos (by omega)]
    · rw [hheader, Header.atSecond_of_current hc]

end Sys2Proof.Proofs.Start
end

section
/-! PROOFS. What follows at once is outstanding only once, and commands act on the state after it (O3). -/

namespace Sys2Proof.Machine

/-! ### The take of a switch -/

/-- A take that is due leaves no switch pending (R135). -/
theorem State.takeSwitch_switch {s : State} (h : s.switchDue = true) : s.takeSwitch.switch = none := by
  unfold State.takeSwitch
  split
  · rw [if_pos h]
    split
    · simp [State.carrySwitch]
    · simp
  · assumption

theorem State.takeSwitch_of_not_due {s : State} (h : s.switchDue = false) : s.takeSwitch = s := by
  unfold State.takeSwitch
  split
  · rw [if_neg (by simp [h])]
  · rfl

theorem State.switchDue_of_none {s : State} (h : s.switch = none) : s.switchDue = false := by simp [State.switchDue, h]

theorem State.switchDue_takeSwitch (s : State) : s.takeSwitch.switchDue = false := by
  cases h : s.switchDue with
  | true => exact State.switchDue_of_none (State.takeSwitch_switch h)
  | false => rwa [State.takeSwitch_of_not_due h]

/-! ### The gap of 0 -/

theorem State.expireGap_of_not_due {s : State} (h : s.gapDue = false) : s.expireGap = s := by
  unfold State.expireGap
  split
  · rw [if_neg (by simp [h])]
  · rfl

/-- The gap expiry sets the header alone, out of a SETTLING whose gap is due. -/
theorem State.expireGap_cases (s : State) :
    s.expireGap = s ∨ ∃ since taken, s.header = .settling since taken ∧
      (s.expireGap = s.withHeader (.settling since true) ∨ s.expireGap = s.withHeader .idle) := by
  unfold State.expireGap
  split
  · rename_i since taken h
    split
    · refine .inr ⟨since, taken, h, ?_⟩
      split
      · exact .inl rfl
      · exact .inr rfl
    · exact .inl rfl
  · exact .inl rfl

theorem State.gapDue_expireGap (s : State) : s.expireGap.gapDue = false := by
  cases h : s.gapDue with
  | false => rwa [State.expireGap_of_not_due h]
  | true =>
    unfold State.expireGap
    split
    · rw [if_pos h]
      split <;> simp [State.gapDue, State.withHeader]
    · rename_i hn
      unfold State.gapDue at h
      split at h
      · rename_i hh
        exact absurd hh (hn _ _)
      · cases h

theorem State.isFree_expireGap (s : State) : s.expireGap.header.isFree = s.header.isFree := by
  rcases s.expireGap_cases with h | ⟨since, taken, hh, h | h⟩
  · rw [h]
  · rw [h, hh]; rfl
  · rw [h, hh]; rfl

theorem State.switchDue_expireZeroGap (s : State) : s.expireZeroGap.switchDue = s.switchDue := by
  unfold State.expireZeroGap
  split
  · rw [State.switchDue, State.isFree_expireGap]
    simp [State.switchDue]
  · rfl

/-- A gap of 0 has expired. -/
def State.ZeroGapTaken (s : State) : Prop := s.activeBank.headerGap = 0 → s.gapDue = false

theorem State.expireZeroGap_of_taken {s : State} (h : s.ZeroGapTaken) : s.expireZeroGap = s := by
  unfold State.expireZeroGap
  split
  · rename_i h0
    exact State.expireGap_of_not_due (h h0)
  · rfl

theorem State.zeroGapTaken_expireZeroGap (s : State) : s.expireZeroGap.ZeroGapTaken := by
  unfold State.expireZeroGap
  split
  · exact fun _ => s.gapDue_expireGap
  · rename_i h0
    exact fun h => absurd h h0

/-! ### The evaluation -/

/-- A hold that is broken is gone; one that is not stays (R45). -/
theorem State.breakHold_cases (s : State) :
    s.breakHold = s ∨ ∃ h, s.hold = some h ∧
      s.breakHold = ({ s with hold := none } : State).postTo h.port (.tenure .holdBroken) := by
  unfold State.breakHold
  split
  · rename_i h hh
    split
    · exact .inr ⟨h, hh, rfl⟩
    · exact .inl rfl
  · exact .inl rfl

theorem State.breakHold_of_none {s : State} (h : s.hold = none) : s.breakHold = s := by
  rw [State.breakHold, h]

theorem State.breakHold_breakHold (s : State) : s.breakHold.breakHold = s.breakHold := by
  rcases s.breakHold_cases with h | ⟨x, -, h⟩
  · rw [h, h]
  · rw [h]
    exact State.breakHold_of_none (by simp)

/-- A selection leaves IDLE, and everything else leaves the state. -/
theorem State.trySelect_cases (s : State) :
    s.trySelect = s ∨ ∃ f r, s.candidate = some f ∧ s.filter f = some r ∧ s.passes r = true ∧ s.trySelect = s.select f r := by
  unfold State.trySelect
  split
  · rename_i f hc
    split
    · rename_i r hr
      split
      · rename_i hp
        exact .inr ⟨f, r, hc, hr, hp, rfl⟩
      · exact .inl rfl
    · exact .inl rfl
  · exact .inl rfl

theorem State.select_header (s : State) (f : FilterNo) (r : Filter) : (s.select f r).header = .calling (s.openWash f r) := by
  simp [State.select]

theorem State.evaluate_of_guard {s : State} (h : s.guardHolds = true) : s.evaluate = s.breakHold.trySelect := by
  rw [State.evaluate, if_pos h]

theorem State.evaluate_of_not_guard {s : State} (h : s.guardHolds = false) : s.evaluate = s := by
  rw [State.evaluate, if_neg (by simp [h])]

theorem State.evaluate_evaluate (s : State) : s.evaluate.evaluate = s.evaluate := by
  cases h : s.guardHolds with
  | false => rw [State.evaluate_of_not_guard h, State.evaluate_of_not_guard h]
  | true =>
    rw [State.evaluate_of_guard h]
    rcases s.breakHold.trySelect_cases with ht | ⟨f, r, -, -, -, ht⟩
    · cases hg : s.breakHold.guardHolds with
      | false => rw [ht, State.evaluate_of_not_guard hg]
      | true => rw [ht, State.evaluate_of_guard hg, State.breakHold_breakHold, ht]
    · rw [ht]
      refine State.evaluate_of_not_guard ?_
      simp [State.guardHolds, State.select_header, Header.isIdle]

/-- An evaluation leaves the header, or takes it from IDLE to CALLING. -/
theorem State.evaluate_header (s : State) :
    s.evaluate.header = s.header ∨ s.header = .idle ∧ ∃ w, s.evaluate.header = .calling w := by
  cases h : s.guardHolds with
  | false => exact .inl (by rw [State.evaluate_of_not_guard h])
  | true =>
    rw [State.evaluate_of_guard h]
    rcases s.breakHold.trySelect_cases with ht | ⟨f, r, -, -, -, ht⟩
    · exact .inl (by rw [ht]; simp)
    · exact .inr ⟨State.idle_of_guardHolds h, _, by rw [ht, State.select_header]⟩

theorem State.switchDue_evaluate {s : State} (h : s.switchDue = false) : s.evaluate.switchDue = false := by
  have hs : s.evaluate.switch = s.switch ∧ s.evaluate.lock = s.lock := by simp
  rcases s.evaluate_header with hh | ⟨-, w, hh⟩
  · rw [State.switchDue, hh, hs.1, hs.2]
    exact h
  · simp [State.switchDue, hh, Header.isFree]

theorem State.zeroGapTaken_evaluate {s : State} (h : s.ZeroGapTaken) : s.evaluate.ZeroGapTaken := by
  have hb : s.evaluate.activeBank = s.activeBank := State.activeBank_congr (by simp) (by simp) (by simp)
  intro h0
  rw [hb] at h0
  have hd := h h0
  rcases s.evaluate_header with hh | ⟨-, w, hh⟩
  · rw [State.gapDue, hh, hb]
    simpa [State.gapDue, State.reached] using hd
  · simp [State.gapDue, hh]

/-! ### What follows at once -/

theorem State.atOnce_atOnce (s : State) : s.atOnce.atOnce = s.atOnce := by
  have hdue : s.atOnce.switchDue = false :=
    State.switchDue_evaluate (by rw [State.switchDue_expireZeroGap, State.switchDue_takeSwitch])
  have hgap : s.atOnce.ZeroGapTaken := State.zeroGapTaken_evaluate (State.zeroGapTaken_expireZeroGap _)
  rw [State.atOnce.eq_def s.atOnce, State.takeSwitch_of_not_due hdue, State.expireZeroGap_of_taken hgap]
  exact State.evaluate_evaluate _

theorem State.event_running {s : State} (h : s.phase = .running) (e : State → State) : s.event e = e s.atOnce := by
  rw [State.event, h]

/-- A command that is no start of the part, no take of a switch and no gap expiry is an event of the running part. -/
theorem exec_event {c : Instr} (hr : ∀ a b, c ≠ .reset a b) (hl : ∀ a, c ≠ .imageLoadComplete a) (hs : c ≠ .switchTake)
    (hg : c ≠ .gapExpiry) : ∃ e, ∀ s : State, s.phase = .running → exec c s = .next (s.event e) := by
  cases c with
  | reset a b => exact absurd rfl (hr a b)
  | imageLoadComplete a => exact absurd rfl (hl a)
  | switchTake => exact absurd rfl hs
  | gapExpiry => exact absurd rfl hg
  | inputRawChange i high => exact ⟨evInputRawChange i high, fun s h => by simp only [exec, execInputRawChange, h]⟩
  | _ => exact ⟨_, fun _ _ => rfl⟩

end Sys2Proof.Machine

namespace Sys2Proof.Proofs.AtOnce

open Sys2Proof.Machine

/-- Settles O3: each of the three parts of what follows at once leaves nothing of itself outstanding. -/
theorem commandsFollowWhatComesAtOnce : Obligations.CommandsFollowWhatComesAtOnce := by
  unfold Obligations.CommandsFollowWhatComesAtOnce
  intro s h
  refine ⟨s.atOnce_atOnce, fun c hr hl hs hg => ?_⟩
  obtain ⟨e, he⟩ := exec_event hr hl hs hg
  have h' : s.atOnce.phase = .running := by simpa using h
  rw [he s h, he _ h', State.event_running h, State.event_running h', s.atOnce_atOnce]

end Sys2Proof.Proofs.AtOnce
end

section
/-! PROOFS. Reasons, timers and returns by the service state of the record, said once (R8 to R16, R29, R30). -/

namespace Sys2Proof.Machine

theorem Table.set_get_self {α : Type} (t : Table α) (f : FilterNo) : t.set f (t.get f) = t := by
  cases t
  simp [Table.set, Table.get]

theorem State.setFilter_self {s : State} {f : FilterNo} {x : Option Filter} (h : s.filter f = x) : s.setFilter f x = s := by
  rw [← h, State.setFilter, State.filter, Table.set_get_self]

/-! ### Reasons (R8, R9) -/

theorem State.addReasons_inService {s : State} {f : FilterNo} {r : Filter} {start : Int} (hr : s.filter f = some r)
    (hv : r.service = .inService start) {new : Reasons} (hn : new.isNonempty = true) :
    s.addReasons f new = (s.setFilter f (some { r with service := .due ⟨new, new.cls, s.clock⟩ start })).enqueue f := by
  simp only [State.addReasons, hr, Option.map_some, hv, hn, if_true, State.setService_some hr]

theorem State.addReasons_none {s : State} {f : FilterNo} {r : Filter} {start : Int} (hr : s.filter f = some r)
    (hv : r.service = .inService start) {new : Reasons} (hn : new.isNonempty = false) : s.addReasons f new = s := by
  simp [State.addReasons, hr, hv, hn]

theorem State.addReasons_due_keep {s : State} {f : FilterNo} {r : Filter} {d : Due} {start : Int} (hr : s.filter f = some r)
    (hv : r.service = .due d start) {new : Reasons} (h : (d.reasons.join new).cls.code ≤ d.cls.code) :
    s.addReasons f new =
      s.setFilter f (some { r with service := .due { d with reasons := d.reasons.join new } start }) := by
  simp only [State.addReasons, hr, Option.map_some, hv, if_neg (Nat.not_lt.2 h), State.setService_some hr]

theorem State.addReasons_due_rise {s : State} {f : FilterNo} {r : Filter} {d : Due} {start : Int} (hr : s.filter f = some r)
    (hv : r.service = .due d start) {new : Reasons} (h : d.cls.code < (d.reasons.join new).cls.code) :
    s.addReasons f new = ((s.dequeue f).setFilter f (some { r with
      service := .due ⟨d.reasons.join new, (d.reasons.join new).cls, s.clock⟩ start })).enqueue f := by
  simp only [State.addReasons, hr, Option.map_some, hv, if_pos h, State.setService_some (s := s.dequeue f) hr]

theorem State.addReasons_other {s : State} {f : FilterNo} {r : Filter} (hr : s.filter f = some r)
    (hi : ∀ start, r.service ≠ .inService start) (hd : ∀ d start, r.service ≠ .due d start) (new : Reasons) :
    s.addReasons f new = s := by
  simp only [State.addReasons, hr, Option.map_some]
  split
  · rename_i start h
    exact absurd (Option.some.inj h) (hi start)
  · rename_i d start h
    exact absurd (Option.some.inj h) (hd d start)
  · rfl

/-! ### The run-time expiry (R10) -/

theorem State.expireRunTime_inService {s : State} {f : FilterNo} {r : Filter} {start : Int} (hr : s.filter f = some r)
    (hv : r.service = .inService start) :
    s.expireRunTime f = if s.runTimeOver start = true then
      (s.setFilter f (some { r with service := .due ⟨⟨false, false, true, none⟩, .routine, s.clock⟩ start })).enqueue f
      else s := by
  have hdue : s.runTimeDue f = s.runTimeOver start := by simp [State.runTimeDue, hr, hv]
  rw [State.expireRunTime, hdue, State.addReasons_inService hr hv (by rfl)]
  rfl

/-- RUNTIME moves no entry, for it raises no class. -/
theorem State.expireRunTime_due {s : State} {f : FilterNo} {r : Filter} {d : Due} {start : Int} (hr : s.filter f = some r)
    (hv : r.service = .due d start) (hc : d.cls = d.reasons.cls) :
    s.expireRunTime f = if s.runTimeOver start = true then
      s.setFilter f (some { r with service := .due { d with reasons := { d.reasons with runtime := true } } start })
      else s := by
  have hdue : s.runTimeDue f = (!d.reasons.runtime && s.runTimeOver start) := by simp [State.runTimeDue, hr, hv]
  rw [State.expireRunTime, hdue, State.addReasons_due_keep hr hv (by simp [hc]), Reasons.join_ofRuntime]
  cases ho : s.runTimeOver start with
  | false => simp
  | true =>
    cases hrt : d.reasons.runtime with
    | false => simp
    | true =>
      have hsame : ({ d with reasons := { d.reasons with runtime := true } } : Due) = d := by
        rw [← hrt]
      rw [hsame, ← hv]
      exact (State.setFilter_self hr).symm

theorem State.expireRunTime_not_over {s : State} {f : FilterNo} {r : Filter} {d : Due} {start : Int} (hr : s.filter f = some r)
    (hv : r.service = .due d start) (ho : s.runTimeOver start = false) : s.expireRunTime f = s := by
  simp [State.expireRunTime, State.runTimeDue, hr, hv, ho]

theorem State.expireRunTime_other {s : State} {f : FilterNo} {r : Filter} (hr : s.filter f = some r)
    (hi : ∀ start, r.service ≠ .inService start) (hd : ∀ d start, r.service ≠ .due d start) : s.expireRunTime f = s := by
  unfold State.expireRunTime
  split
  · exact State.addReasons_other hr hi hd _
  · rfl

/-! ### The ripening expiry (R16) -/

theorem State.postOwner_some {s : State} {f : FilterNo} {r : Filter} (hr : s.filter f = some r) (n : Notice) :
    s.postOwner f n = s.postTo r.owner n := by
  simp [State.postOwner, State.ownerOf, hr]

theorem State.expireRipening_ripening {s : State} {f : FilterNo} {r : Filter} {start : Nat} (hr : s.filter f = some r)
    (hv : r.service = .ripening start) :
    s.expireRipening f = if s.activeBank.ripeningLimit ≤ s.clock - start then
      (s.setFilter f (some { r with service := .heldOut .ripenTimeout })).postTo r.owner (.filterHeld f) else s := by
  have hdue : s.ripeningDue f = decide (s.activeBank.ripeningLimit ≤ s.clock - start) := by
    simp [State.ripeningDue, hr, hv, State.reached]
  rw [State.expireRipening, hdue, State.setService_some hr,
    State.postOwner_some (r := { r with service := .heldOut .ripenTimeout }) (by simp)]
  simp only [decide_eq_true_eq]

theorem State.expireRipening_other {s : State} {f : FilterNo} {r : Filter} (hr : s.filter f = some r)
    (hv : ∀ start, r.service ≠ .ripening start) : s.expireRipening f = s := by
  unfold State.expireRipening State.ripeningDue
  rw [hr, Option.map_some]
  split
  · rename_i start hs
    exact absurd (Option.some.inj hs) (hv start)
  · rfl

/-! ### The return to DUE (R29, R30) -/

theorem State.returnToDue_engaged {s : State} {f : FilterNo} {r : Filter} {d : Due} {start : Int} (hr : s.filter f = some r)
    (hv : r.service = .called d start ∨ r.service = .washing d start) (time : Option Nat) :
    s.returnToDue f time =
      ((s.setFilter f (some { r with service := .due { d with queueTime := time.getD d.queueTime } start })).enqueue f).expireRunTime
        f := by
  rcases hv with hv | hv <;> simp only [State.returnToDue, hr, Option.map_some, hv, State.setService_some hr]

/-- A filter that returns before its run-time limit. -/
theorem State.returnToDue_not_over {s : State} {f : FilterNo} {r : Filter} {d : Due} {start : Int} (hr : s.filter f = some r)
    (hv : r.service = .called d start ∨ r.service = .washing d start) (time : Option Nat) (ho : s.runTimeOver start = false) :
    s.returnToDue f time =
      (s.setFilter f (some { r with service := .due { d with queueTime := time.getD d.queueTime } start })).enqueue f := by
  rw [State.returnToDue_engaged hr hv]
  exact State.expireRunTime_not_over (r := { r with service := .due { d with queueTime := time.getD d.queueTime } start })
    (State.filter_setFilter _ _ _) rfl (by simpa using ho)

/-- A filter that returns past its run-time limit gains RUNTIME at once (R10). -/
theorem State.returnToDue_over {s : State} {f : FilterNo} {r : Filter} {d : Due} {start : Int} (hr : s.filter f = some r)
    (hv : r.service = .called d start ∨ r.service = .washing d start) (time : Option Nat) (ho : s.runTimeOver start = true)
    (hc : d.cls = d.reasons.cls) :
    s.returnToDue f time =
      ((s.setFilter f (some { r with service := .due { d with queueTime := time.getD d.queueTime } start })).enqueue f).setFilter f
        (some { r with
          service := .due ⟨{ d.reasons with runtime := true }, d.cls, time.getD d.queueTime⟩ start }) := by
  rw [State.returnToDue_engaged hr hv]
  have hf : ((s.setFilter f (some { r with service := .due { d with queueTime := time.getD d.queueTime } start })).enqueue
      f).filter f = some { r with service := .due { d with queueTime := time.getD d.queueTime } start } :=
    State.filter_setFilter _ _ _
  exact (State.expireRunTime_due hf rfl hc).trans (if_pos (by simpa using ho))

end Sys2Proof.Machine
end

section
/-! PROOFS. What an abort does, said once (R83, R84, R87), and what it leaves of filters and ports; the outcome of an abort (O41). -/

namespace Sys2Proof.Machine

/-! ### Other filters stand -/

theorem State.filter_setService_ne (s : State) {f g : FilterNo} (v : Service) (h : g ≠ f) :
    (s.setService f v).filter g = s.filter g := State.filter_setFilter_ne _ _ h

theorem State.filter_addReasons_ne (s : State) {f g : FilterNo} (new : Reasons) (h : g ≠ f) :
    (s.addReasons f new).filter g = s.filter g := by
  refine s.addReasons_elim (P := fun t => t.filter g = s.filter g) f new rfl (fun _ _ _ _ => ?_) (fun _ _ _ _ => ?_)
    (fun _ _ _ _ => ?_)
  · rw [State.enqueue_filter, State.filter_setService_ne _ _ h]
  · rw [State.enqueue_filter, State.filter_setService_ne _ _ h, State.dequeue_filter]
  · rw [State.filter_setService_ne _ _ h]

theorem State.filter_expireRunTime_ne (s : State) {f g : FilterNo} (h : g ≠ f) :
    (s.expireRunTime f).filter g = s.filter g := by
  unfold State.expireRunTime
  split
  · exact s.filter_addReasons_ne _ h
  · rfl

theorem State.filter_returnToDue_ne (s : State) {f g : FilterNo} (time : Option Nat) (h : g ≠ f) :
    (s.returnToDue f time).filter g = s.filter g :=
  s.returnToDue_elim (P := fun t => t.filter g = s.filter g) f time (fun _ _ => rfl) fun _ _ _ => by
    rw [State.filter_expireRunTime_ne _ h, State.enqueue_filter, State.filter_setService_ne _ _ h]

theorem State.filter_abortFilter_ne (s : State) {w : Wash} {g : FilterNo} (h : g ≠ w.filter) :
    (s.abortFilter w).filter g = s.filter g := by
  unfold State.abortFilter
  dsimp only
  split
  · rw [State.filter_setService_ne _ _ h, State.mapFilter, State.filter_setFilter_ne _ _ h]
  · rw [State.filter_returnToDue_ne _ _ h, State.mapFilter, State.filter_setFilter_ne _ _ h]

/-! ### The filter of the aborted wash (R84) -/

theorem State.abortFilter_afterWater {s : State} {w : Wash} {x : Filter} (hx : s.filter w.filter = some x)
    (hw : w.waterReached = true) :
    s.abortFilter w = s.setFilter w.filter (some { x with
      service := .heldOut .washIncomplete, lastWash := some ⟨s.clock, .abortedAfterWater⟩ }) := by
  unfold State.abortFilter
  dsimp only
  rw [if_pos hw, State.mapFilter_some hx, State.setService_some (State.filter_setFilter _ _ _), State.setFilter_setFilter,
    Wash.abortOutcome, if_pos hw]

theorem State.abortFilter_beforeWater {s : State} {w : Wash} {x : Filter} {d : Due} {start : Int}
    (hx : s.filter w.filter = some x) (hw : w.waterReached = false)
    (hv : x.service = .called d start ∨ x.service = .washing d start) (ho : s.runTimeOver start = false) :
    s.abortFilter w = (s.setFilter w.filter (some { x with
      service := .due d start, lastWash := some ⟨s.clock, .abortedBeforeWater⟩ })).enqueue w.filter := by
  have hmark : (s.setFilter w.filter (some { x with lastWash := some ⟨s.clock, w.abortOutcome⟩ })).filter w.filter =
      some { x with lastWash := some ⟨s.clock, w.abortOutcome⟩ } := State.filter_setFilter _ _ _
  unfold State.abortFilter
  dsimp only
  rw [if_neg (by simp [hw]), State.mapFilter_some hx, State.returnToDue_not_over hmark hv none (by simpa using ho),
    State.setFilter_setFilter, Wash.abortOutcome, if_neg (by simp [hw])]
  rfl

/-! ### Changes of latches -/

theorem State.latchesOnly_refl (s : State) : s.LatchesOnly s := State.LatchesOnly.of_ports rfl

theorem State.latchesOnly_postAttached (s : State) (n : Notice) : s.LatchesOnly (s.postAttached n) := fun i => by
  rw [State.port_postAttached]
  split <;> exact ⟨_, rfl⟩

theorem State.latchesOnly_postPeers (s : State) (p : PortNo) : s.LatchesOnly (s.postPeers p) := fun i => by
  rw [State.port_postPeers]
  split <;> exact ⟨_, rfl⟩

theorem State.latchesOnly_postFault (s : State) (p : PortNo) (cause : AbortCause) : s.LatchesOnly (s.postFault p cause) := by
  unfold State.postFault
  split
  · exact s.latchesOnly_postTo p _
  · exact s.latchesOnly_refl

theorem State.latchesOnly_enterRunon (s : State) : s.LatchesOnly s.enterRunon := by
  have h : s.LatchesOnly ((s.withHeader .runon).postAttached (.headerFault .runon)) :=
    (State.LatchesOnly.of_ports rfl).trans (State.latchesOnly_postAttached _ _)
  unfold State.enterRunon
  dsimp only
  split
  · exact h.trans (State.LatchesOnly.of_ports rfl)
  · exact h

theorem State.latchesOnly_leaveAborting (s : State) : s.LatchesOnly s.leaveAborting := by
  unfold State.leaveAborting
  split
  · split
    · exact s.latchesOnly_enterRunon
    · split
      · exact s.latchesOnly_refl
      · exact State.LatchesOnly.of_ports rfl
  · exact s.latchesOnly_refl

/-! ### The abort entry, up to the way out of ABORTING -/

/-- The state in which a wash has been aborted and the header is still in ABORTING (R83, R84, R87). -/
def State.abortEntry (s : State) (w : Wash) (r : Option Run) (cause : AbortCause) : State :=
  let t := (s.setOutputs Lines.allOff (s.feedbackWindow w)).withHeader (.aborting w r cause)
  (((t.abortFilter w).appendHistory (t.historyRecord w r w.abortOutcome (some cause))).postTo w.owner
    (.washEnd w.filter w.abortOutcome)).postFault w.owner cause

theorem State.abortWash_eq (s : State) (w : Wash) (r : Option Run) (cause : AbortCause) :
    s.abortWash w r cause = (s.abortEntry w r cause).leaveAborting := rfl

theorem State.abortEntry_header (s : State) (w : Wash) (r : Option Run) (cause : AbortCause) :
    (s.abortEntry w r cause).header = .aborting w r cause := by simp [State.abortEntry]

theorem State.abortWash_history (s : State) (w : Wash) (r : Option Run) (cause : AbortCause) :
    (s.abortWash w r cause).history = pushRecord s.history (s.historyRecord w r w.abortOutcome (some cause)) ∧
      (s.abortWash w r cause).nextSeq = next16 s.nextSeq := by
  rw [State.abortWash_eq]
  simp [State.abortEntry, State.appendHistory, State.historyRecord]

theorem State.abortWash_outputs (s : State) (w : Wash) (r : Option Run) (cause : AbortCause) :
    (s.abortWash w r cause).outputs = Lines.allOff := by
  rw [State.abortWash_eq]
  simp [State.abortEntry]

theorem State.abortWash_filters (s : State) (w : Wash) (r : Option Run) (cause : AbortCause) :
    (s.abortWash w r cause).filters =
        (((s.setOutputs Lines.allOff (s.feedbackWindow w)).withHeader (.aborting w r cause)).abortFilter w).filters ∧
      (s.abortWash w r cause).queue =
        (((s.setOutputs Lines.allOff (s.feedbackWindow w)).withHeader (.aborting w r cause)).abortFilter w).queue := by
  rw [State.abortWash_eq]
  simp [State.abortEntry]

theorem State.latchesOnly_abortEntry (s : State) (w : Wash) (r : Option Run) (cause : AbortCause) :
    s.LatchesOnly (s.abortEntry w r cause) :=
  ((State.LatchesOnly.of_ports (by simp)).trans (State.latchesOnly_postTo _ _ _)).trans (State.latchesOnly_postFault _ _ _)

/-- No change of a drive makes or ends an overrun. -/
@[simp] theorem Supervision.isOverrun_driven (v : Supervision) (old new : Drive) (feedback : Bool) (w : Window) :
    (v.driven old new feedback w).isOverrun = v.isOverrun := by
  unfold Supervision.driven
  split
  · rfl
  · cases v <;> cases feedback <;> split <;> rfl

theorem State.abortEntry_anyOverrun (s : State) (w : Wash) (r : Option Run) (cause : AbortCause) :
    (s.abortEntry w r cause).anyOverrun = s.anyOverrun := by
  simp [State.anyOverrun, State.abortEntry, State.setOutputs]

theorem State.abortEntry_feedbackClear (s : State) (w : Wash) (r : Option Run) (cause : AbortCause) :
    (s.abortEntry w r cause).feedbackClear = s.feedbackClear := by
  have hi : (s.abortEntry w r cause).inputs = s.inputs := by simp [State.abortEntry]
  simp only [State.feedbackClear, State.asserted_congr hi]

theorem State.port_postFault (s : State) (p i : PortNo) (cause : AbortCause) :
    (s.postFault p cause).port i =
      if cause.isFault = true ∧ i = p then (s.port p).post (.headerFault (.cause cause)) else s.port i := by
  unfold State.postFault
  cases cause.isFault <;> simp [State.port_postTo]

/-- The latches of the owner port after the abort entry. -/
theorem State.abortEntry_owner (s : State) (w : Wash) (r : Option Run) (cause : AbortCause) :
    ((s.abortEntry w r cause).port w.owner).latches.washEnd = some (w.filter, w.abortOutcome) ∧
      ((s.abortEntry w r cause).port w.owner).latches.headerFault =
        if cause.isFault = true then some (.cause cause) else (s.port w.owner).latches.headerFault := by
  have hs : ∀ t : State, t.ports = s.ports → t.port w.owner = s.port w.owner := fun t h => by simp [State.port, h]
  unfold State.abortEntry
  dsimp only
  rw [State.port_postFault]
  cases h : cause.isFault <;>
    simp [State.port_postTo, Port.post, Latches.post, hs, State.appendHistory]

/-! ### The way out of ABORTING (R85, R106, R107) -/

theorem State.feedbackClear_congr {s t : State} (h : t.inputs = s.inputs) : t.feedbackClear = s.feedbackClear := by
  simp only [State.feedbackClear, State.asserted_congr h]

theorem State.leaveAborting_header {s : State} {w : Wash} {r : Option Run} {cause : AbortCause}
    (h : s.header = .aborting w r cause) :
    s.leaveAborting.header =
      if s.anyOverrun = true then (if s.feedbackClear = true then .settling s.clock false else .runon)
      else if s.anyStopping = true then .aborting w r cause else .settling s.clock false := by
  have hf : ((s.withHeader .runon).postAttached (.headerFault .runon)).feedbackClear = s.feedbackClear :=
    State.feedbackClear_congr (by simp)
  unfold State.leaveAborting
  rw [h]
  dsimp only
  split
  · unfold State.enterRunon
    dsimp only
    rw [hf]
    split
    · simp [State.enterSettling]
    · simp
  · split
    · exact h
    · simp [State.enterSettling]

theorem State.port_leaveAborting {s : State} {w : Wash} {r : Option Run} {cause : AbortCause}
    (h : s.header = .aborting w r cause) (i : PortNo) :
    s.leaveAborting.port i =
      if s.anyOverrun = true ∧ (s.port i).state.isAttached = true then (s.port i).post (.headerFault .runon)
      else s.port i := by
  have hpost : ((s.withHeader .runon).postAttached (.headerFault .runon)).port i =
      if (s.port i).state.isAttached = true then (s.port i).post (.headerFault .runon) else s.port i :=
    State.port_postAttached _ i _
  unfold State.leaveAborting
  rw [h]
  dsimp only
  cases ho : s.anyOverrun with
  | false =>
    simp only [Bool.false_eq_true, false_and, if_false]
    split <;> rfl
  | true =>
    have hrunon : s.enterRunon.port i = ((s.withHeader .runon).postAttached (.headerFault .runon)).port i := by
      unfold State.enterRunon
      dsimp only
      split <;> rfl
    simp only [true_and, if_true, hrunon, hpost]

/-! ### The inflow still to charge (R113) -/

theorem State.chargeAccrual_of_charged {s : State} (h : ∀ a, s.accrual = some a → a.charged = true) : s.chargeAccrual = s := by
  unfold State.chargeAccrual
  split
  · rename_i a ha
    rw [if_pos (h a ha)]
  · rfl

theorem State.chargeAccrual_of_uncharged {s : State} {a : Accrual} (ha : s.accrual = some a) (hc : a.charged = false) :
    s.chargeAccrual = { s with
      header := s.header.mapWash fun v => { v with volumeAdded := v.volumeAdded + a.inflow }
      accrual := some { a with charged := true } } := by
  simp [State.chargeAccrual, ha, hc, State.addToWash]

theorem State.abort_of_charged {s : State} {w : Wash} {r : Option Run} (hl : s.header.live = some (w, r))
    (h : ∀ a, s.accrual = some a → a.charged = true) (cause : AbortCause) : s.abort cause = s.abortWash w r cause := by
  rw [State.abort, State.chargeAccrual_of_charged h, hl]

/-- Charged first, an abort is an abort with nothing left to charge. -/
theorem State.abort_eq {s : State} {w : Wash} {r : Option Run} (hl : s.header.live = some (w, r)) (cause : AbortCause) :
    ∃ n a, s.abort cause =
      ({ s with header := s.header.mapWash (Wash.addVolume n), accrual := a } : State).abortWash (w.addVolume n) r cause := by
  obtain ⟨n, a, hc⟩ := s.exists_chargeAccrual
  refine ⟨n, a, ?_⟩
  have hlive : s.chargeAccrual.header.live = some (w.addVolume n, r) := by
    rw [hc]
    simp [hl]
  rw [State.abort, hlive, ← hc]

theorem State.abort_of_not_live {s : State} (h : s.header.live = none) (cause : AbortCause) : s.abort cause = s := by
  obtain ⟨n, a, hc⟩ := s.exists_chargeAccrual
  have hlive : s.chargeAccrual.header.live = none := by
    rw [hc]
    simp [h]
  rw [State.abort, hlive]

/-! ### What every abort leaves behind -/

theorem State.abort_history {s : State} {w : Wash} {r : Option Run} (hl : s.header.live = some (w, r)) (cause : AbortCause) :
    ∃ h : HistoryRecord, (s.abort cause).history = pushRecord s.history h ∧ h.filter = w.filter ∧ h.cause = some cause ∧
      h.outcome = w.abortOutcome := by
  obtain ⟨n, a, h⟩ := State.abort_eq hl cause
  generalize hu : ({ s with header := s.header.mapWash (Wash.addVolume n), accrual := a } : State) = u at h
  refine ⟨u.historyRecord (w.addVolume n) r (w.addVolume n).abortOutcome (some cause), ?_, rfl, rfl, rfl⟩
  rw [h, (State.abortWash_history _ _ _ _).1, ← hu]

theorem State.abort_washing {s : State} {w : Wash} {r : Option Run} (hl : s.header.live = some (w, r)) (cause : AbortCause) :
    (s.abort cause).header.washing = none := by
  obtain ⟨n, a, h⟩ := State.abort_eq hl cause
  rw [h, State.abortWash_eq, State.leaveAborting_header (State.abortEntry_header _ _ _ _)]
  (repeat' split) <;> rfl

theorem State.latchesOnly_abort (s : State) (cause : AbortCause) : s.LatchesOnly (s.abort cause) := by
  cases hl : s.header.live with
  | none => rw [State.abort_of_not_live hl]; exact s.latchesOnly_refl
  | some x =>
    obtain ⟨n, a, h⟩ := State.abort_eq (w := x.1) (r := x.2) hl cause
    generalize hu : ({ s with header := s.header.mapWash (Wash.addVolume n), accrual := a } : State) = u at h
    rw [h, State.abortWash_eq]
    have hs : s.LatchesOnly u := State.LatchesOnly.of_ports (by rw [← hu])
    exact hs.trans ((State.latchesOnly_abortEntry _ _ _ _).trans (State.latchesOnly_leaveAborting _))

theorem Header.live_of_isWashing {h : Header} {w : Wash} (hw : h.washing = some w) : ∃ r, h.live = some (w, some r) := by
  cases h <;> simp_all [Header.washing, Header.live]

end Sys2Proof.Machine

namespace Sys2Proof.Proofs.Aborts

open Sys2Proof.Machine

theorem isFault_iff (cause : AbortCause) :
    cause.isFault = true ↔ cause = .headerTrip ∨ cause = .feedbackFault ∨ cause = .tripHoldLimit := by
  cases cause <;> simp [AbortCause.isFault]

/-- The header and the header-fault latches after an abort whose inflow is charged. -/
theorem abortWash_way_out (s : State) (w : Wash) (r : Option Run) (cause : AbortCause) :
    (s.anyOverrun = false →
      ((s.abortWash w r cause).header =
          if (s.abortWash w r cause).anyStopping = true then .aborting w r cause else .settling s.clock false) ∧
        ((s.abortWash w r cause).port w.owner).latches.headerFault =
          if cause = .headerTrip ∨ cause = .feedbackFault ∨ cause = .tripHoldLimit then some (.cause cause)
          else (s.port w.owner).latches.headerFault) ∧
      (s.anyOverrun = true →
        (s.abortWash w r cause).header =
            (if s.asserted .pumpRun = true ∨ s.asserted .blowerRun = true then .runon else .settling s.clock false) ∧
          (∀ i, (s.port i).state.isAttached = true →
            ((s.abortWash w r cause).port i).latches.headerFault = some .runon) ∧
          ((s.port w.owner).state.isAttached = false →
            ((s.abortWash w r cause).port w.owner).latches.headerFault =
              if cause = .headerTrip ∨ cause = .feedbackFault ∨ cause = .tripHoldLimit then some (.cause cause)
              else (s.port w.owner).latches.headerFault)) := by
  have hhead := State.leaveAborting_header (s.abortEntry_header w r cause)
  have hport := State.port_leaveAborting (s.abortEntry_header w r cause)
  have hfault := (s.abortEntry_owner w r cause).2
  have hattached := (s.latchesOnly_abortEntry w r cause).sameAttached
  have hclock : (s.abortEntry w r cause).clock = s.clock := by simp [State.abortEntry]
  have hpairs : (s.abortWash w r cause).anyStopping = (s.abortEntry w r cause).anyStopping := by
    rw [State.abortWash_eq]
    simp [State.anyStopping]
  rw [State.abortEntry_anyOverrun, State.abortEntry_feedbackClear, hclock] at hhead
  simp only [State.abortEntry_anyOverrun] at hport
  simp only [isFault_iff] at hfault
  refine ⟨fun ho => ⟨?_, ?_⟩, fun ho => ⟨?_, fun i hi => ?_, fun hn => ?_⟩⟩
  · rw [hpairs, State.abortWash_eq, hhead, if_neg (by simp [ho])]
  · rw [State.abortWash_eq, hport, if_neg (by simp [ho]), hfault]
  · rw [State.abortWash_eq, hhead, if_pos ho]
    cases hp : s.asserted .pumpRun <;> cases hb : s.asserted .blowerRun <;> simp [State.feedbackClear, hp, hb]
  · rw [State.abortWash_eq, hport, if_pos ⟨ho, (hattached i).trans hi⟩]
    rfl
  · rw [State.abortWash_eq, hport, if_neg (by simp [hattached w.owner, hn]), hfault]

/-- Settles O41: the abort entry field by field, then the way out of ABORTING. -/
theorem anAbortDecidesTheOutcome : Obligations.AnAbortDecidesTheOutcome := by
  unfold Obligations.AnAbortDecidesTheOutcome
  intro s w r cause hl
  refine ⟨fun hc => ⟨s.abortWash w r cause, State.abort_of_charged hl hc cause, ?_⟩, fun a ha hc => ?_⟩
  · obtain ⟨hhist, hseq⟩ := s.abortWash_history w r cause
    obtain ⟨hfilters, hqueue⟩ := s.abortWash_filters w r cause
    obtain ⟨hstill, hover⟩ := abortWash_way_out s w r cause
    refine ⟨s.abortWash_outputs w r cause, hhist, hseq, ?_, by simp, by simp, by simp, by simp, by simp, by simp,
      fun g hg => ?_, hstill, hover, fun x hx => ⟨fun hw => ?_, fun d start hw hv ho => ?_⟩⟩
    · rw [State.abortWash_eq, State.port_leaveAborting (s.abortEntry_header w r cause), ← (s.abortEntry_owner w r cause).1]
      split <;> rfl
    · rw [State.filter_congr hfilters, State.filter_abortFilter_ne _ hg]
      simp
    · rw [hqueue, State.filter_congr hfilters, State.abortFilter_afterWater (x := x) (by simpa using hx) hw]
      exact ⟨rfl, State.filter_setFilter _ _ _⟩
    · rw [hqueue, State.filter_congr hfilters,
        State.abortFilter_beforeWater (x := x) (by simpa using hx) hw hv (by exact ho)]
      exact ⟨by simp, State.filter_setFilter _ _ _⟩
  · have hcharge := State.chargeAccrual_of_uncharged ha hc
    rw [← hcharge]
    have hcharged : s.chargeAccrual.chargeAccrual = s.chargeAccrual :=
      State.chargeAccrual_of_charged fun b hb => by rw [hcharge] at hb; cases hb; rfl
    obtain ⟨n, b, he⟩ := s.exists_chargeAccrual
    have hlive : s.chargeAccrual.header.live = some (w.addVolume n, r) := by
      rw [he]
      simp [hl]
    rw [State.abort, State.abort, hcharged, hlive]

end Sys2Proof.Proofs.Aborts
end

section
/-! PROOFS. Ports that come, fall silent, leave and are blocked (O8 to O12). -/

namespace Sys2Proof.Machine

/-! ### Commands and requests at a port -/

/-- A command that is an event of the part is that event on a settled state. -/
theorem Settled.exec {s : State} (h : Settled s) {c : Instr} {e : State → State} (hc : exec c s = .next (s.event e)) :
    exec c s = .next (e s) := by
  rw [hc, h.event]

/-- A request in form that the port's state takes is taken by its owning block, and answered. -/
theorem Hears.request {s : State} {p : PortNo} (h : Hears s p) {kind : Nat} (tag : Nat) (act : State → State × Answer)
    (hk : knownKind kind = true) (ht : ((s.goodFrame p).port p).state.takes kind = true) :
    s.request p kind tag true act = (act (s.goodFrame p)).1.answered p kind tag (act (s.goodFrame p)).2 := by
  simp [State.request, h.takes, h.room_after, State.portRefusal, hk, ht, State.answered]

theorem Hears.of_state {s : State} {p : PortNo} (h : Settled s) (hb : (s.port p).state ≠ .blocked)
    (hr : (s.port p).receiver ≠ .resync) (hroom : (s.port p).replies.length < replyLimit) : Hears s p :=
  ⟨h, by simp [State.takesFrame, State.receives, h.running, hb, hr], hroom⟩

@[simp] theorem State.port_answered (s : State) (p : PortNo) (kind tag : Nat) (a : Answer) :
    (s.answered p kind tag a).port p = { s.port p with replies := (s.port p).replies ++ [⟨kind, tag, a⟩] } :=
  State.port_setPort _ _ _

theorem State.port_answered_ne (s : State) {p i : PortNo} (h : i ≠ p) (kind tag : Nat) (a : Answer) :
    (s.answered p kind tag a).port i = s.port i := State.port_setPort_ne _ _ h

@[simp] theorem State.answered_frame (s : State) (p : PortNo) (kind tag : Nat) (a : Answer) :
    (s.answered p kind tag a).filters = s.filters ∧ (s.answered p kind tag a).queue = s.queue ∧
    (s.answered p kind tag a).header = s.header ∧ (s.answered p kind tag a).history = s.history ∧
    (s.answered p kind tag a).holder = s.holder ∧ (s.answered p kind tag a).budget = s.budget ∧
    (s.answered p kind tag a).hold = s.hold ∧ (s.answered p kind tag a).holdFlags = s.holdFlags ∧
    (s.answered p kind tag a).lock = s.lock ∧ (s.answered p kind tag a).plant = s.plant := by
  simp [State.answered]

@[simp] theorem State.answered_filter (s : State) (p : PortNo) (kind tag : Nat) (a : Answer) (f : FilterNo) :
    (s.answered p kind tag a).filter f = s.filter f := rfl

theorem State.PortsOnly.answered {s t : State} (h : s.PortsOnly t) (p : PortNo) (kind tag : Nat) (a : Answer) :
    s.PortsOnly (t.answered p kind tag a) := h

theorem State.port_goodFrame_attached_ne (s : State) {p i : PortNo} (h : i ≠ p) :
    ((s.goodFrame p).port i).state = (s.port i).state := by
  rw [s.port_goodFrame_ne h]
  split <;> rfl

theorem State.port_setPortState (s : State) (p : PortNo) (st : PortState) :
    (s.setPortState p st).port p = { s.port p with state := st } := State.port_setPort _ _ _

theorem State.port_setPortState_ne (s : State) {p i : PortNo} (st : PortState) (h : i ≠ p) :
    (s.setPortState p st).port i = s.port i := State.port_setPort_ne _ _ h

/-! ### The leaving effects (R157) -/

theorem State.latchesOnly_dropWash (s : State) (p : PortNo) : s.LatchesOnly (s.dropWash p) := by
  rcases s.dropWash_cases p with h | ⟨w, -, h⟩ | h <;> rw [h]
  · exact s.latchesOnly_refl
  · exact State.LatchesOnly.of_ports (by simp)
  · exact s.latchesOnly_abort _

/-- A port that leaves changes its state, and the latches of ports follow. -/
theorem State.latchesOnly_leavePort (s : State) (p : PortNo) (st : PortState) :
    (s.setPortState p st).LatchesOnly (s.leavePort p st) := by
  unfold State.leavePort State.leavingEffects
  dsimp only
  split
  · exact (State.LatchesOnly.of_ports (by simp)).trans (State.latchesOnly_dropWash _ p)
  · exact State.latchesOnly_refl _

theorem State.port_leavePort (s : State) (p : PortNo) (st : PortState) :
    ∃ l, (s.leavePort p st).port p = { s.port p with state := st, latches := l } := by
  obtain ⟨l, h⟩ := s.latchesOnly_leavePort p st p
  exact ⟨l, by rw [h, State.port_setPortState]⟩

theorem State.port_leavePort_ne (s : State) {p i : PortNo} (st : PortState) (h : i ≠ p) :
    ∃ l, (s.leavePort p st).port i = { s.port i with latches := l } := by
  obtain ⟨l, hl⟩ := s.latchesOnly_leavePort p st i
  exact ⟨l, by rw [hl, State.port_setPortState_ne _ _ h]⟩

theorem State.leavePort_attached {s : State} {p : PortNo} (h : (s.port p).state.isAttached = true) (st : PortState) :
    s.leavePort p st = (((s.setPortState p st).dropLock p).dropHold p).dropWash p := by
  rw [State.leavePort, if_pos h]
  rfl

theorem State.leavePort_not_attached {s : State} {p : PortNo} (h : (s.port p).state.isAttached = false) (st : PortState) :
    s.leavePort p st = s.setPortState p st := by
  rw [State.leavePort, if_neg (by simp [h])]

theorem State.Claimless.congr {s t : State} {p : PortNo} (h : s.Claimless p) (hl : t.lock = s.lock) (hh : t.hold = s.hold)
    (hf : t.holdFlags = s.holdFlags) : t.Claimless p :=
  ⟨fun l e => h.lock l (hl ▸ e), fun x e => h.hold x (hh ▸ e), hf ▸ h.flag⟩

/-- A port that leaves holds no claim (R57, R127). -/
theorem State.leavePort_claimless {s : State} {p : PortNo} (h : (s.port p).state.isAttached = true) (st : PortState) :
    (s.leavePort p st).Claimless p := by
  rw [State.leavePort_attached h]
  exact (State.dropHold_dropLock_claimless (s.setPortState p st) p).congr (by simp) (by simp) (by simp)

theorem State.dropWash_calling {s : State} {p : PortNo} {w : Wash} (hh : s.header = .calling w) (ho : w.owner = p) :
    s.dropWash p = s.endCall w none := by
  rw [State.dropWash, hh]
  dsimp only
  rw [if_pos ho]

theorem State.dropWash_washing {s : State} {p : PortNo} {w : Wash} (hh : s.header.washing = some w) (ho : w.owner = p) :
    s.dropWash p = s.abort .stationLost := by
  unfold State.dropWash
  cases h : s.header <;> simp_all [Header.washing]

/-- The call of a leaving port's filter ends (R68). -/
theorem State.leavePort_calling {s : State} {p : PortNo} {w : Wash} {r : Filter} {d : Due} {start : Int} (st : PortState)
    (ha : (s.port p).state.isAttached = true) (hh : s.header = .calling w) (ho : w.owner = p)
    (hr : s.filter w.filter = some r) (hv : r.service = .called d start) (hrt : s.runTimeOver start = false) :
    (s.leavePort p st).header = .idle ∧ (s.leavePort p st).history = s.history ∧
      (s.leavePort p st).filter w.filter = some { r with service := .due d start } ∧
      w.filter ∈ (s.leavePort p st).queue := by
  rw [State.leavePort_attached ha]
  generalize hu : ((s.setPortState p st).dropLock p).dropHold p = u
  have hframe : u.header = s.header ∧ u.filters = s.filters ∧ u.history = s.history ∧ u.clock = s.clock ∧
      u.normal = s.normal ∧ u.storm = s.storm ∧ u.active = s.active := by simp [← hu]
  obtain ⟨uheader, ufilters, uhistory, uclock, unormal, ustorm, uactive⟩ := hframe
  have hur : u.filter w.filter = some r := (State.filter_congr ufilters _).trans hr
  have hurt : u.runTimeOver start = false :=
    (State.runTimeOver_congr (State.activeBank_congr unormal ustorm uactive) uclock start).trans hrt
  rw [State.dropWash_calling (uheader.trans hh) ho, State.endCall, State.returnToDue_not_over hur (.inl hv) none hurt]
  exact ⟨rfl, uhistory, State.filter_setFilter _ _ _, by simp⟩

/-- The wash of a leaving port aborts with STATION_LOST (R81). -/
theorem State.leavePort_washing {s : State} {p : PortNo} {w : Wash} (st : PortState)
    (ha : (s.port p).state.isAttached = true) (hh : s.header.washing = some w) (ho : w.owner = p) :
    (∃ h : HistoryRecord, (s.leavePort p st).history = pushRecord s.history h ∧ h.filter = w.filter ∧
      h.cause = some .stationLost ∧ h.outcome = w.abortOutcome) ∧ (s.leavePort p st).header.washing = none := by
  rw [State.leavePort_attached ha]
  generalize hu : ((s.setPortState p st).dropLock p).dropHold p = u
  have hframe : u.header = s.header ∧ u.history = s.history := by simp [← hu]
  obtain ⟨uheader, uhistory⟩ := hframe
  have huw : u.header.washing = some w := by rw [uheader, hh]
  obtain ⟨r, hl⟩ := Header.live_of_isWashing huw
  rw [State.dropWash_washing huw ho]
  obtain ⟨x, hx, hrest⟩ := State.abort_history hl .stationLost
  exact ⟨⟨x, by rw [hx, uhistory], hrest⟩, State.abort_washing hl _⟩

/-! ### Entry to LOST or BLOCKED -/

@[simp] theorem State.losePort_rest (s : State) (p : PortNo) (st : PortState) :
    (s.losePort p st).header = (s.leavePort p st).header ∧ (s.losePort p st).history = (s.leavePort p st).history ∧
      (s.losePort p st).filters = (s.leavePort p st).filters ∧ (s.losePort p st).queue = (s.leavePort p st).queue ∧
      (s.losePort p st).lock = (s.leavePort p st).lock ∧ (s.losePort p st).hold = (s.leavePort p st).hold ∧
      (s.losePort p st).holdFlags = (s.leavePort p st).holdFlags := by
  simp [State.losePort]

theorem State.losePort_claimless {s : State} {p : PortNo} (h : (s.port p).state.isAttached = true) (st : PortState) :
    (s.losePort p st).Claimless p := (State.leavePort_claimless h st).congr (by simp) (by simp) (by simp)

theorem State.port_losePort (s : State) (p : PortNo) (st : PortState) :
    ∃ l, (s.losePort p st).port p = { s.port p with state := st, latches := l } := by
  obtain ⟨l, h⟩ := s.port_leavePort p st
  exact ⟨l, by rw [State.losePort, State.port_postPeers, if_neg (by simp), h]⟩

theorem State.losePort_peer (s : State) {p i : PortNo} (st : PortState) (h : i ≠ p) (ha : (s.port i).state.isAttached = true) :
    ((s.losePort p st).port i).latches.peer = some (p, st) := by
  obtain ⟨l, hl⟩ := s.port_leavePort p st
  obtain ⟨m, hm⟩ := s.port_leavePort_ne st h
  rw [State.losePort, State.port_postPeers, if_pos ⟨h, by rw [hm]; exact ha⟩, hl]
  rfl

/-- A port that was not attached loses nothing. -/
theorem State.losePort_portsOnly {s : State} {p : PortNo} (h : (s.port p).state.isAttached = false) (st : PortState) :
    s.PortsOnly (s.losePort p st) := by
  rw [State.losePort, State.leavePort_not_attached h]
  exact State.PortsOnly.refl s

end Sys2Proof.Machine

namespace Sys2Proof.Proofs.PortStates

open Sys2Proof.Machine

/-! ### ATTACH -/

theorem unknownCount_congr {s t : State} (h : t.filters = s.filters) (p : PortNo) : t.unknownCount p = s.unknownCount p := by
  simp [State.unknownCount, h]

/-- A new attachment: the port, the latches of the others, and nothing else (R156). -/
theorem newAttachment_spec (s : State) (p : PortNo) (name : List Nat) :
    s.PortsOnly (s.newAttachment p name) ∧
      (s.newAttachment p name).port p = { s.port p with
        state := .attached, name := some name, lastGood := s.clock, mask := 0
        latches := if 0 < s.unknownCount p then (s.port p).latches.post (.reconcile (s.unknownCount p))
                   else (s.port p).latches } ∧
      ∀ i, i ≠ p → (s.newAttachment p name).port i =
        if (s.port i).state.isAttached = true then (s.port i).post (.peer p .attached) else s.port i := by
  have hcount : (s.setPort p { s.port p with state := .attached, name := some name, lastGood := s.clock, mask := 0 }).unknownCount
      p = s.unknownCount p := unknownCount_congr rfl p
  unfold State.newAttachment
  dsimp only
  rw [hcount]
  refine ⟨?_, ?_, fun i hi => ?_⟩ <;> split
  · exact State.PortsOnly.refl s
  · exact State.PortsOnly.refl s
  · simp [State.port_postPeers, State.port_postTo, Port.post]
  · simp [State.port_postPeers]
  · simp [State.port_postPeers, State.port_postTo, hi, State.port_setPort_ne _ _ hi]
  · simp [State.port_postPeers, hi, State.port_setPort_ne _ _ hi]

/-- Settles O8: in ATTACHED the name alone; from DETACHED or LOST the new attachment after the good frame. -/
theorem attachSetsThePort : Obligations.AttachSetsThePort := by
  unfold Obligations.AttachSetsThePort
  refine ⟨fun s p tag revision name h hform => ?_, fun s p tag revision name h hst hres hroom hform => ?_⟩
  · refine (h.toSettled.exec (e := evAttach p tag revision name) rfl).trans ?_
    rw [evAttach, hform, h.handle tag _ rfl rfl, State.attachPort, if_pos (by rw [h.goodFrame_state]; rfl)]
  · have hblocked : (s.port p).state ≠ .blocked := by rcases hst with e | e <;> simp [e]
    have hquiet : (s.port p).state ≠ .quiet := by rcases hst with e | e <;> simp [e]
    have hears := Hears.of_state h hblocked hres hroom
    have hport := s.port_goodFrame p
    rw [if_neg hquiet] at hport
    have htakes : ((s.goodFrame p).port p).state.takes 1 = true := by
      rw [hport]
      rcases hst with e | e <;> simp [e, PortState.takes]
    have hatt : ((s.goodFrame p).port p).state.isAttached = false := by
      rw [hport]
      rcases hst with e | e <;> simp [e, PortState.isAttached]
    obtain ⟨honly, hself, hothers⟩ := newAttachment_spec (s.goodFrame p) p name
    refine ⟨((s.goodFrame p).newAttachment p name).answered p 1 tag (.accepted (.attach p)), ?_, ?_, ?_, fun i hi => ?_⟩
    · refine (h.exec (e := evAttach p tag revision name) rfl).trans ?_
      rw [evAttach, State.handle, hform, hears.request tag _ rfl htakes]
      dsimp only [Verdict.settle]
      rw [State.attachPort, if_neg (by simp [hatt])]
    · exact (((State.PortsOnly.refl s).goodFrame p).trans honly).answered p 1 tag _
    · rw [State.port_answered, hself, hport, unknownCount_congr (s := s) (by simp)]
      simp
    · have hsame : (s.goodFrame p).port i = s.port i := by rw [s.port_goodFrame_ne hi, if_neg (by simp [hquiet])]
      rw [State.port_answered_ne _ hi, hothers i hi, hsame]

/-! ### DETACH -/

theorem detachPort_rest (s : State) (p : PortNo) :
    (s.detachPort p).header = (s.leavePort p .detached).header ∧ (s.detachPort p).history = (s.leavePort p .detached).history ∧
      (s.detachPort p).filters = (s.leavePort p .detached).filters ∧
      (s.detachPort p).queue = (s.leavePort p .detached).queue ∧ (s.detachPort p).lock = (s.leavePort p .detached).lock ∧
      (s.detachPort p).hold = (s.leavePort p .detached).hold ∧
      (s.detachPort p).holdFlags = (s.leavePort p .detached).holdFlags ∧ (s.detachPort p).holder = s.holder ∧
      (s.detachPort p).budget = s.budget := by
  simp [State.detachPort]

theorem port_detachPort (s : State) (p : PortNo) :
    (s.detachPort p).port p = { s.port p with state := .detached, name := none, latches := Latches.clear } := by
  obtain ⟨l, hl⟩ := s.port_leavePort p .detached
  simp [State.detachPort, State.port_postPeers, hl]

theorem detachPort_peer (s : State) {p i : PortNo} (h : i ≠ p) (ha : (s.port i).state.isAttached = true) :
    ((s.detachPort p).port i).latches.peer = some (p, .detached) := by
  obtain ⟨l, hl⟩ := s.port_leavePort p .detached
  obtain ⟨m, hm⟩ := s.port_leavePort_ne .detached h
  simp [State.detachPort, State.port_postPeers, h, State.port_setPort_ne _ _ h, hm, ha, hl, Port.post, Latches.post]

theorem exec_detach {s : State} {p : PortNo} (h : Hears s p) (tag : Nat)
    (ht : ((s.goodFrame p).port p).state.takes 2 = true) :
    exec (.detach p tag) s = .next (((s.goodFrame p).detachPort p).answered p 2 tag (.accepted .none)) := by
  refine (h.toSettled.exec (e := evDetach p tag) rfl).trans ?_
  rw [evDetach, State.handle, h.request tag _ rfl ht]
  rfl

theorem exec_detach_ready {s : State} {p : PortNo} (h : Ready s p) (tag : Nat) :
    exec (.detach p tag) s = .next (((s.goodFrame p).detachPort p).answered p 2 tag (.accepted .none)) :=
  exec_detach h.hears tag (by rw [h.goodFrame_state]; rfl)

/-- Settles O9: the leaving effects, the port, and PEER. -/
theorem detachTakesTheStationOff : Obligations.DetachTakesTheStationOff := by
  unfold Obligations.DetachTakesTheStationOff
  refine ⟨fun s p tag w r d start h hh ho hr hv hrt => ⟨_, exec_detach_ready h tag, ?_⟩,
    fun s p tag w h hh ho => ?_, fun s p tag h hst hres hroom => ?_⟩
  · have hatt : ((s.goodFrame p).port p).state.isAttached = true := by rw [h.goodFrame_state]; rfl
    obtain ⟨hheader, hhistory, hfilter, hqueue⟩ := State.leavePort_calling (s := s.goodFrame p) (r := r) .detached hatt
      (by simpa using hh) ho (by simpa using hr) hv (by simpa using hrt)
    obtain ⟨theader, thistory, tfilters, tqueue, -⟩ := detachPort_rest (s.goodFrame p) p
    refine ⟨?_, ?_, ?_, ?_⟩
    · simp [theader, hheader]
    · simp [thistory, hhistory]
    · rw [State.answered_filter, State.filter_congr tfilters, hfilter]
    · simpa [tqueue] using hqueue
  · have hatt : ((s.goodFrame p).port p).state.isAttached = true := by rw [h.goodFrame_state]; rfl
    obtain ⟨⟨x, hx, hf, hc, hout⟩, hwashing⟩ :=
      State.leavePort_washing (s := s.goodFrame p) (w := w) .detached hatt (by simpa using hh) ho
    obtain ⟨theader, thistory, -⟩ := detachPort_rest (s.goodFrame p) p
    exact ⟨_, x, exec_detach_ready h tag, by simp [thistory, hx], hf, hc, hout, by simp [theader, hwashing]⟩
  · have hblocked : (s.port p).state ≠ .blocked := by
      rcases hst with e | e
      · intro hb; rw [hb] at e; cases e
      · simp [e]
    have hears := Hears.of_state h hblocked hres hroom
    have htakes : ((s.goodFrame p).port p).state.takes 2 = true := by
      rcases hst with e | e
      · rw [(⟨h, e, hres, hroom⟩ : Ready s p).goodFrame_state]; rfl
      · rw [s.port_goodFrame p]; simp [e, PortState.takes]
    have hport := port_detachPort (s.goodFrame p) p
    rw [s.port_goodFrame p] at hport
    obtain ⟨-, -, -, -, hlock, hhold, hflags, hholder, hbudget⟩ := detachPort_rest (s.goodFrame p) p
    refine ⟨_, exec_detach hears tag htakes, ?_, ?_, ?_, ?_, ?_, fun ha => ?_, ?_, ?_, fun i hi ha => ?_, fun hl => ?_⟩
    · simp [hport]
    · simp [hport]
    · simp [hport]
    · simp [hport]
    · simp [hport]
    · have hatt : ((s.goodFrame p).port p).state.isAttached = true := by
        rw [(⟨h, ha, hres, hroom⟩ : Ready s p).goodFrame_state]; rfl
      obtain ⟨l, x, f⟩ := (State.leavePort_claimless hatt .detached).congr (t := ((s.goodFrame p).detachPort p).answered p 2 tag
        (.accepted .none)) (by simp [hlock]) (by simp [hhold]) (by simp [hflags])
      exact ⟨l, x, f⟩
    · simp [hholder]
    · simp [hbudget]
    · rw [State.port_answered_ne _ hi]
      exact detachPort_peer _ hi (by rw [s.port_goodFrame_attached_ne hi]; exact ha)
    · have hleave : (s.goodFrame p).leavePort p .detached = (s.goodFrame p).setPortState p .detached :=
        State.leavePort_not_attached (by rw [s.port_goodFrame p]; simp [hl, PortState.isAttached]) _
      have hset : s.PortsOnly ((s.goodFrame p).leavePort p .detached) :=
        hleave ▸ ((State.PortsOnly.refl s).goodFrame p).setPort p _
      exact ((hset.setPort p _).postPeers p).answered p 2 tag _

/-! ### QUIET and LOST -/

/-- Settles O10: the port's state, and PEER to the others. -/
theorem silenceMovesAPort : Obligations.SilenceMovesAPort := by
  unfold Obligations.SilenceMovesAPort
  intro s p h
  refine ⟨fun hst hq => ⟨s.quietPort p, ?_, State.PortsOnly.refl s, ?_, fun i hi => ?_⟩, fun hst hl => ?_⟩
  · refine (h.exec (e := evQuietExpiry p) rfl).trans ?_
    rw [evQuietExpiry, if_pos (by simp [State.quietDue, hst, State.silence, hq])]
  · simp [State.quietPort, State.port_postPeers, State.port_setPortState]
  · simp [State.quietPort, State.port_postPeers, hi, State.port_setPortState, State.port_setPortState_ne _ _ hi]
  · refine (h.exec (e := evLostExpiry p) rfl).trans ?_
    rw [evLostExpiry, if_pos (by simp [State.lostDue, hst, State.silence, hl])]

/-- Settles O11: the claims, the call or the wash of the port, and PEER. -/
theorem leavingDropsThePortsClaims : Obligations.LeavingDropsThePortsClaims := by
  unfold Obligations.LeavingDropsThePortsClaims
  refine ⟨fun s p st w r d start ha hh ho hr hv hrt => ?_, fun s p st w ha hh ho => ?_, fun s p st ha => ?_⟩
  · obtain ⟨hheader, hhistory, hfilter, -⟩ := State.leavePort_calling st ha hh ho hr hv hrt
    exact ⟨by simp [hheader], by rw [State.filter_congr (s := s.leavePort p st) (by simp), hfilter], by simp [hhistory]⟩
  · obtain ⟨⟨x, hx, hrest⟩, -⟩ := State.leavePort_washing st ha hh ho
    exact ⟨x, by simp [hx], hrest⟩
  · obtain ⟨l, hl⟩ := s.port_losePort p st
    obtain ⟨hlock, hhold, hflag⟩ := State.losePort_claimless ha st
    exact ⟨by rw [hl], hlock, hhold, hflag, by simp, by simp, by simp, by simp, fun i hi hi' => s.losePort_peer st hi hi'⟩

/-! ### Damaged frames -/

theorem discardFrame_eq {s : State} {p : PortNo} {got : List Byte} (h : Settled s) (hb : (s.port p).state ≠ .blocked)
    (hf : (s.port p).receiver = .framing got) :
    s.discardFrame p =
      if 7 ≤ (s.port p).badCount then
        (s.setPort p { s.port p with badCount := (s.port p).badCount + 1, receiver := .resync }).losePort p .blocked
      else s.setPort p { s.port p with badCount := (s.port p).badCount + 1, receiver := .resync } := by
  have hlimit : badLimit ≤ (s.port p).badCount + 1 ↔ 7 ≤ (s.port p).badCount := by unfold badLimit; omega
  rw [State.discardFrame, if_pos (by simp [State.receives, h.running, hb, hf, Receiver.isFraming])]
  simp only [hlimit]

theorem exec_frameDiscard {s : State} (h : Settled s) (p : PortNo) (cause : DiscardCause) :
    exec (.frameDiscard p cause) s = .next (s.discardFrame p) := h.exec (e := evFrameDiscard p cause) rfl

theorem exec_characterGapTimeout {s : State} (h : Settled s) (p : PortNo) :
    exec (.characterGapTimeout p) s = .next (s.discardFrame p) := h.exec (e := evCharacterGapTimeout p) rfl

/-- Settles O12: the bad count, the block at the eighth, and the ways out of RESYNC and BLOCKED. -/
theorem damagedFramesAndLineBreaks : Obligations.DamagedFramesAndLineBreaks := by
  unfold Obligations.DamagedFramesAndLineBreaks
  refine ⟨fun s p cause got h hb hf => ⟨fun hn => ?_, fun hn => ?_⟩, fun s p h => ⟨fun hb hr => ?_, fun hb => ?_, fun hb => ?_⟩⟩
  · have hd := discardFrame_eq h hb hf
    rw [if_neg (by omega)] at hd
    exact ⟨(exec_frameDiscard h p cause).trans (by rw [hd]), (exec_characterGapTimeout h p).trans (by rw [hd])⟩
  · have hd := discardFrame_eq h hb hf
    rw [if_pos (by omega), hn] at hd
    generalize hq : ({ s.port p with badCount := 8, receiver := .resync } : Port) = q at hd
    have hqf : q.state = (s.port p).state ∧ q.badCount = 8 ∧ q.replies = (s.port p).replies ∧ q.mask = (s.port p).mask := by
      simp [← hq]
    obtain ⟨qstate, qbad, qreplies, qmask⟩ := hqf
    have hself : ((s.setPort p q).port p).state = (s.port p).state := by rw [State.port_setPort, qstate]
    obtain ⟨l, hl⟩ := (s.setPort p q).port_losePort p .blocked
    rw [State.port_setPort] at hl
    refine ⟨_, exec_frameDiscard h p cause, exec_characterGapTimeout h p, hd, ?_, ?_, ?_, ?_, fun i hi ha => ?_,
      fun ha => ?_, fun ha => ?_⟩ <;> rw [hd]
    · rw [hl]
    · rw [hl]; exact qbad
    · rw [hl]; exact qreplies
    · rw [hl]; exact qmask
    · exact State.losePort_peer _ _ hi (by rwa [State.port_setPort_ne _ _ hi])
    · have ha' : ((s.setPort p q).port p).state.isAttached = true := by rw [hself]; exact ha
      obtain ⟨hlock, hhold, hflag⟩ := State.losePort_claimless ha' .blocked
      refine ⟨hlock, hhold, hflag, by simp, fun w hw ho => ?_⟩
      obtain ⟨⟨x, hx, hxf, hxc, -⟩, -⟩ := State.leavePort_washing .blocked ha' (w := w) hw ho
      exact ⟨x, by simp [hx], hxf, hxc⟩
    · exact ((State.PortsOnly.refl s).setPort p q).trans (State.losePort_portsOnly (by rw [hself]; exact ha) _)
  · refine (h.exec (e := evResyncIdle p) rfl).trans ?_
    rw [evResyncIdle, if_pos (by simp [State.receives, h.running, hb, hr])]
    rfl
  · refine ⟨s.unblock p, ?_, State.PortsOnly.refl s, ?_, fun i hi => ?_⟩
    · refine (h.exec (e := evLineBreak p) rfl).trans ?_
      rw [evLineBreak, if_pos hb]
    · simp [State.unblock, State.port_postPeers]
    · simp [State.unblock, State.port_postPeers, hi, State.port_setPort_ne _ _ hi]
  · refine (h.exec (e := evLineBreak p) rfl).trans ?_
    rw [evLineBreak, if_neg hb, exec_frameDiscard h]

end Sys2Proof.Proofs.PortStates
end

section
/-! PROOFS. Frames and requests on the line: characters (O14), the refusals of the port (O15), a full reply queue (O13), and
telegrams read back (O60). -/

namespace Sys2Proof

/-! ### Fields of one, two and four bytes -/

theorem toNat_byteOf {n : Nat} (h : fitsByte n = true) : (byteOf n).toNat = n := by
  simp only [fitsByte, decide_eq_true_eq] at h
  simp only [byteOf, BitVec.toNat_ofNat]
  omega

theorem from16_byteOf {n : Nat} (h : fitsTwo n = true) : from16 (byteOf n) (byteOf (n / 256)) = n := by
  simp only [fitsTwo, decide_eq_true_eq] at h
  simp only [from16, byteOf, BitVec.toNat_ofNat]
  omega

theorem from32_byteOf {n : Nat} (h : fitsFour n = true) :
    from32 (byteOf n) (byteOf (n / 256)) (byteOf (n / 65536)) (byteOf (n / 16777216)) = n := by
  simp only [fitsFour, decide_eq_true_eq] at h
  simp only [from32, byteOf, BitVec.toNat_ofNat]
  omega

theorem map_toNat_byteOf {l : List Nat} (h : l.all fitsByte = true) : (l.map byteOf).map BitVec.toNat = l := by
  rw [List.map_map]
  exact (List.map_congr_left fun n hn => toNat_byteOf (List.all_eq_true.1 h n hn)).trans (List.map_id l)

/-! ### The CONDITION entries -/

theorem decodeEntries_encode {es : List ConditionEntry} (h : es.all ConditionEntry.wf = true) :
    decodeEntries (es.flatMap encodeEntry) = some es := by
  induction es with
  | nil => rfl
  | cons e es ih =>
    simp only [List.all_cons, Bool.and_eq_true, ConditionEntry.wf] at h
    obtain ⟨⟨⟨hf, hh⟩, ht⟩, hes⟩ := h
    simp only [List.flatMap_cons, encodeEntry, le16, List.cons_append, List.nil_append, decodeEntries, ih hes,
      toNat_byteOf hf, from16_byteOf hh, from16_byteOf ht]

/-! ### Requests read -/

/-- A frame of an unknown kind is not read further (R152). -/
theorem decodeRequest_of_unknown {p : PortNo} {kind tag : Byte} {body : List Byte} (h : knownKind kind.toNat = false) :
    decodeRequest p kind tag body = .unknown := by
  have hk : kind.toNat = 0 ∨ ∃ n, kind.toNat = n + 28 := by
    simp only [knownKind, Bool.and_eq_false_iff, decide_eq_false_iff_not] at h
    rcases h with h | h
    · exact .inl (by omega)
    · exact .inr ⟨kind.toNat - 28, by omega⟩
  unfold decodeRequest
  generalize kind.toNat = k at h hk
  rcases hk with rfl | ⟨n, rfl⟩
  · rfl
  · exact (if_neg (by simp [h]) : (if knownKind (n + 28) then Request.badForm else Request.unknown) = Request.unknown)

theorem knownKind_of_badForm {p : PortNo} {kind tag : Byte} {body : List Byte}
    (h : decodeRequest p kind tag body = .badForm) : knownKind kind.toNat = true := by
  by_contra hk
  rw [decodeRequest_of_unknown (by simpa using hk)] at h
  cases h

/-- A telegram's kind, tag and body spell its command. -/
theorem decodeRequest_encode {i : Instr} {p : PortNo} {t : Telegram} (hw : i.wf = true) (he : encodeRequest i = some (p, t)) :
    decodeRequest p (byteOf t.kind) (byteOf t.tag) t.body = .command i := by
  cases i with
  | attach q tag revision name =>
    cases he
    simp only [Instr.wf, Bool.and_eq_true] at hw
    obtain ⟨⟨⟨htag, hrev⟩, hname⟩, -⟩ := hw
    conv_lhs => whnf
    rw [toNat_byteOf htag, toNat_byteOf hrev, map_toNat_byteOf hname]
  | condition q tag entries =>
    cases he
    simp only [Instr.wf, Bool.and_eq_true, decide_eq_true_eq] at hw
    obtain ⟨⟨htag, hentries⟩, hlength⟩ := hw
    have hcount : (byteOf entries.length).toNat = entries.length :=
      toNat_byteOf (by simp only [fitsByte, decide_eq_true_eq]; omega)
    show decodeCondition _ _ (byteOf entries.length :: entries.flatMap encodeEntry) = _
    simp only [decodeCondition, decodeEntries_encode hentries, hcount, if_true, toNat_byteOf htag]
  | attention q tag mask =>
    simp only [Instr.wf, Bool.and_eq_true] at hw
    cases mask with
    | none =>
      cases he
      conv_lhs => whnf
      simp only [toNat_byteOf hw.1]
    | some m =>
      cases he
      conv_lhs => whnf
      simp only [toNat_byteOf hw.1, from16_byteOf (n := m) (by simpa using hw.2)]
  | recipeWrite q tag bank letter index record =>
    cases he
    simp only [Instr.wf, StepRecord.wf, Bool.and_eq_true] at hw
    conv_lhs => whnf
    simp only [toNat_byteOf, from16_byteOf, hw]
  | _ =>
    cases he
    all_goals
      simp only [Instr.wf, Bool.and_eq_true] at hw
      conv_lhs => whnf
      simp only [toNat_byteOf, from32_byteOf, hw]
/-! ### Frames gathered -/

theorem toNat_length_byte {body : List Byte} (h : body.length ≤ 60) : (byteOf (body.length + 2)).toNat = body.length + 2 :=
  toNat_byteOf (by simp only [fitsByte, decide_eq_true_eq]; omega)

/-- A whole frame is good. -/
theorem gather_whole {kind tag : Byte} {body : List Byte} (h : body.length ≤ 60) :
    gather (covered kind tag body ++ le16 (crc (covered kind tag body)).toNat) = .good kind tag body := by
  have hlen := toNat_length_byte h
  have hcrc : fitsTwo (crc (covered kind tag body)).toNat = true := by
    simp only [fitsTwo, decide_eq_true_eq]
    exact (crc (covered kind tag body)).isLt
  have hsplit : (kind :: tag :: body ++ le16 (crc (covered kind tag body)).toNat).take (body.length + 2) =
        kind :: tag :: body ∧
      (kind :: tag :: body ++ le16 (crc (covered kind tag body)).toNat).drop (body.length + 2) =
        le16 (crc (covered kind tag body)).toNat :=
    ⟨List.take_left' (by simp), List.drop_left' (by simp)⟩
  rw [covered.eq_def, List.cons_append]
  simp only [gather, hlen]
  rw [if_neg (by simp; omega), if_neg (by simp [le16]), checkWhole, hlen]
  rw [covered.eq_def] at hsplit hcrc
  rw [hsplit.1, hsplit.2]
  simp only [le16, from16_byteOf hcrc, if_true]

/-- A part of a frame calls for more. -/
theorem gather_part {kind tag : Byte} {body got rest : List Byte} (h : body.length ≤ 60)
    (hg : got ++ rest = covered kind tag body ++ le16 (crc (covered kind tag body)).toNat) (hr : rest ≠ []) :
    gather got = .more := by
  cases got with
  | nil => rfl
  | cons b got =>
    have hlen := toNat_length_byte h
    have hlength := congrArg List.length hg
    have hpos := List.length_pos_iff.2 hr
    rw [covered.eq_def, List.cons_append, List.cons_append, List.cons.injEq] at hg
    obtain ⟨rfl, -⟩ := hg
    simp only [covered, List.length_append, List.length_cons, le16, List.length_nil] at hlength
    simp only [gather, hlen]
    rw [if_neg (by simp; omega), if_pos (by omega)]

end Sys2Proof

namespace Sys2Proof.Machine

/-- The event of a request command is a request at the command's port, of the kind and tag of its telegram. -/
theorem requestEvent_eq {i : Instr} {p : PortNo} {t : Telegram} (h : encodeRequest i = some (p, t)) :
    ∃ form act, ∀ s : State, requestEvent i s = s.request p t.kind t.tag form act := by
  cases i with
  | attention q tag mask =>
    cases mask <;>
      (cases h
       simp only [requestEvent, evAttention, State.handle]
       exact ⟨_, _, fun _ => rfl⟩)
  | _ =>
    cases h
    all_goals
      simp only [requestEvent, evAttach, evDetach, evReadFilter, evReadQueue, evReadHeader, evReadBasin, evReadPolicy,
        evReadRecipe, evReadPlant, evReadAssign, evReadHistory, evReadPorts, evReadClock, evCondition,
        evWashRequest, evWithdraw, evHoldOut, evRelease, evReturnFilter, evReconcile, evIsolated, evDecline,
        evProceed, evAbandon, evHoldHeader, evReleaseHold, evBasinDeclare, evPolicyLock, evPolicyUnlock,
        evPolicyWrite, evRecipeWrite, evRecipeTruncate, evAssign, evPlantWrite, evPostureSwitch, evStore, State.read,
        State.handle]
      exact ⟨_, _, fun _ => rfl⟩

theorem knownKind_of_encode {i : Instr} {p : PortNo} {t : Telegram} (h : encodeRequest i = some (p, t)) :
    knownKind t.kind = true := by
  cases i with
  | attention q tag mask => cases mask <;> cases h <;> rfl
  | _ =>
    cases h
    all_goals rfl

theorem exec_request_settled {s : State} (hs : Settled s) {i : Instr}
    (h : (encodeRequest i).isSome = true ∨ ∃ p n k v, i = .unknownRequestKind p n k v) :
    exec i s = .next (requestEvent i s) := by
  rw [exec_request h, hs.event]

/-- A good frame leaves the kinds that the port takes (R153). -/
theorem State.takes_goodFrame (s : State) (p : PortNo) (kind : Nat) :
    ((s.goodFrame p).port p).state.takes kind = (s.port p).state.takes kind := by
  rw [s.port_goodFrame p]
  cases h : (s.port p).state <;> simp [PortState.takes]

theorem Hears.not_blocked {s : State} {p : PortNo} (h : Hears s p) : (s.port p).state ≠ .blocked :=
  State.not_blocked_of_takesFrame h.takes

/-- The kinds that a port other than a BLOCKED one takes (R153). -/
theorem PortState.takes_iff {st : PortState} (h : st ≠ .blocked) (kind : Nat) :
    st.takes kind = true ↔ st.isAttached = true ∨ kind = 1 ∨ (st = .lost ∧ kind = 2) := by
  cases st <;> simp_all [PortState.takes, PortState.isAttached]

end Sys2Proof.Machine

namespace Sys2Proof.Proofs.Lines

open Sys2Proof.Machine

/-- The body of a well-formed command fits a frame. -/
theorem length_body {i : Instr} {p : PortNo} {t : Telegram} (hw : i.wf = true) (he : encodeRequest i = some (p, t)) :
    t.body.length ≤ 60 := by
  have hshape : Sys2Proof.Laws.RequestShape.Statement i → t.body.length ≤ 60 := fun h => by
    simp only [Sys2Proof.Laws.RequestShape.Statement, he] at h
    exact (h.2 hw).2
  cases i with
  | attach q tag revision name => exact hshape (Sys2Proof.Laws.RequestShape.attach q tag revision name)
  | condition q tag entries => exact hshape (Sys2Proof.Laws.RequestShape.condition q tag entries)
  | attention q tag mask => exact hshape (Sys2Proof.Laws.RequestShape.attention q tag mask)
  | _ =>
    cases he
    all_goals exact Nat.le_of_ble_eq_true rfl

/-- Settles O60: the command by its kind's arm of the decoder, the frame by its length and its CRC. -/
theorem telegramsAreReadBack : Obligations.TelegramsAreReadBack := by
  unfold Obligations.TelegramsAreReadBack
  intro i p t hw he
  have hbody := length_body hw he
  exact ⟨decodeRequest_encode hw he, _, rfl, gather_whole hbody, fun got rest hg hr => gather_part hbody hg hr⟩

/-- Settles O13: a request at a full queue leaves what its good frame made; a sent reply leaves its queue. -/
theorem fullReplyQueueAndReplySent : Obligations.FullReplyQueueAndReplySent := by
  unfold Obligations.FullReplyQueueAndReplySent
  intro s p h
  refine ⟨fun ht hf => ⟨fun i t he => ?_, fun tag kind view hu => ?_⟩, fun ht hf => ?_, fun r rest hr => ?_⟩
  · obtain ⟨form, act, hev⟩ := requestEvent_eq he
    rw [exec_request_settled h (.inl (by rw [he]; rfl)), hev, State.request_full ht hf]
  · refine (h.exec (e := evUnknownRequestKind p tag kind view) rfl).trans ?_
    rw [evUnknownRequestKind, if_pos hu, State.request_full ht hf]
  · refine (h.exec (e := evRequestDiscarded p) rfl).trans ?_
    rw [evRequestDiscarded, if_pos (by simpa [ht, State.repliesFull] using hf)]
  · refine (h.exec (e := evReplySent p) rfl).trans ?_
    rw [evReplySent, hr]

theorem exec_startByte {s : State} (h : Settled s) (p : PortNo) (byte : Byte) :
    exec (.startByteReceived p byte) s = .next (evStartByteReceived p byte s) := h.exec rfl

/-- What a character makes of a frame that is being gathered. -/
def afterGathering (s : State) (p : PortNo) (got : List Byte) : Gathered → State
  | .more => s.setReceiver p (.framing got)
  | .badLength => s.discardFrame p
  | .badCrc => s.discardFrame p
  | .good kind tag body => frameEvent p kind tag body s

theorem evStartByteReceived_framing {s : State} {p : PortNo} {got : List Byte} (hr : s.receives p = true)
    (hf : (s.port p).receiver = .framing got) (byte : Byte) :
    evStartByteReceived p byte s = afterGathering s p (got ++ [byte]) (gather (got ++ [byte])) := by
  rw [evStartByteReceived, if_pos hr, hf]
  dsimp only
  cases gather (got ++ [byte]) <;> rfl

/-- A request out of form is refused by the port (R152 steps 2 and 3). -/
theorem request_out_of_form {s : State} {p : PortNo} (h : Hears s p) {kind : Nat} (tag : Nat) (act : State → State × Answer)
    (hk : knownKind kind = true) :
    s.request p kind tag false act = (s.goodFrame p).answered p kind tag (.refused
      (if (s.port p).state.isAttached = true ∨ kind = 1 ∨ ((s.port p).state = .lost ∧ kind = 2) then .badFormat
      else .notAttached)) := by
  refine h.request_refused tag act ?_
  have htakes := PortState.takes_iff h.not_blocked kind
  rw [State.portRefusal, s.takes_goodFrame p, hk]
  by_cases ht : (s.port p).state.takes kind = true
  · rw [if_pos (htakes.1 ht)]
    simp [ht]
  · rw [if_neg (mt htakes.2 ht)]
    simp [ht]

/-- Settles O14: the receiver's state decides, then what the gathered characters make. -/
theorem charactersMakeFrames : Obligations.CharactersMakeFrames := by
  unfold Obligations.CharactersMakeFrames
  intro s p byte h hb
  have hrec : s.receives p = true := by simp [State.receives, h.running, hb]
  refine ⟨fun hr => ?_, fun got hr hg => ?_, fun got hr hg => ?_, fun got kind tag body hr hg => ?_, fun hr => ?_⟩
  · rw [exec_startByte h, evStartByteReceived, if_pos hrec, hr]
    rfl
  · rw [exec_startByte h, evStartByteReceived_framing hrec hr, hg]
    rfl
  · have hdiscard : exec (.frameDiscard p .crcMismatch) s = .next (s.discardFrame p) :=
      h.exec (e := evFrameDiscard p .crcMismatch) rfl
    rw [exec_startByte h, evStartByteReceived_framing hrec hr, hdiscard]
    rcases hg with hg | hg <;> rw [hg] <;> rfl
  · have hframe : exec (.startByteReceived p byte) s = .next (frameEvent p kind tag body s) := by
      rw [exec_startByte h, evStartByteReceived_framing hrec hr, hg]
      rfl
    have htakes : s.takesFrame p = true := by simp [State.takesFrame, hrec, hr]
    rw [hframe]
    refine ⟨fun i hd hi => ?_, fun hd => ?_, fun hd hroom => ?_, fun hd hfull => ?_⟩ <;> rw [frameEvent, hd]
    · rw [exec_request_settled h (hi.imp_right fun ⟨n, k, v, e⟩ => ⟨p, n, k, v, e⟩)]
    · exact (h.exec (e := evUnknownRequestKind p tag.toNat kind.toNat 0) rfl).symm
    · have hears : Hears s p := ⟨h, htakes, hroom⟩
      have hbyte : ∀ k : Byte, kind.toNat = k.toNat ↔ kind = k := fun k => BitVec.toNat_inj
      have hone := hbyte 1#8
      have htwo := hbyte 2#8
      dsimp only
      rw [request_out_of_form hears _ _ (knownKind_of_badForm hd)]
      simp only [← hone, ← htwo]
      rfl
    · dsimp only
      rw [State.request_full htakes hfull]
  · rw [exec_startByte h, evStartByteReceived, if_pos hrec, hr]

/-- A request that names a filter of the sender's own goes through the test of R152 step 4. -/
theorem requestEvent_owned {i : Instr} {p : PortNo} {t : Telegram} {n : Nat} (h : encodeRequest i = some (p, t))
    (hn : ownedFilter i = some n) :
    ∃ act : State → FilterNo → Filter → Verdict, ∀ s : State, requestEvent i s =
      s.handle p t.kind t.tag true fun u => u.ownFilter p n (act u) := by
  cases i with
  | attention q tag mask => cases hn
  | _ =>
    cases hn
    all_goals
      cases h
      simp only [requestEvent, evIsolated, evDecline, evProceed, evAbandon, evWashRequest, evWithdraw, evHoldOut,
        evRelease, evReturnFilter, evReconcile]
      exact ⟨_, fun _ => rfl⟩

theorem attachForm_false {revision : Nat} {name : List Nat}
    (h : revision ≠ 1 ∨ name = [] ∨ 16 < name.length ∨ ∃ c ∈ name, c < 32 ∨ 126 < c) : attachForm revision name = false := by
  rw [Bool.eq_false_iff]
  intro hf
  simp only [attachForm, Bool.and_eq_true, beq_iff_eq, decide_eq_true_eq, List.all_eq_true] at hf
  obtain ⟨⟨⟨hrev, hmin⟩, hmax⟩, hall⟩ := hf
  rcases h with h | rfl | h | ⟨c, hc, hr⟩
  · exact h hrev
  · simp at hmin
  · omega
  · have := hall c hc
    omega

/-- Settles O15: the port's tests in the order of R152. -/
theorem thePortRefusesOfItself : Obligations.ThePortRefusesOfItself := by
  unfold Obligations.ThePortRefusesOfItself
  intro s p tag h
  refine ⟨fun kind view hk => ?_, fun view hv => ?_, fun i t he hst => ?_, fun revision name hbad => ?_,
    fun i t n ha he hn => ?_⟩
  · have hunknown : knownKind kind = false := by
      simp only [knownKind, Bool.and_eq_false_iff, decide_eq_false_iff_not]
      omega
    refine (h.toSettled.exec (e := evUnknownRequestKind p tag kind view) rfl).trans ?_
    rw [evUnknownRequestKind, if_pos (by simp [unknownRequest, hunknown]),
      h.request_refused tag _ (code := .badFormat) (by simp [State.portRefusal, hunknown])]
  · have hview : knownView view = false := by
      simp only [knownView, Bool.and_eq_false_iff, decide_eq_false_iff_not]
      omega
    refine (h.toSettled.exec (e := evUnknownRequestKind p tag 3 view) rfl).trans ?_
    rw [evUnknownRequestKind, if_pos (by simp [unknownRequest, hview, kindRead]), request_out_of_form h _ _ rfl]
    simp
  · obtain ⟨form, act, hev⟩ := requestEvent_eq he
    have htakes : (s.port p).state.takes t.kind = false := by
      rcases hst with ⟨e, h1⟩ | ⟨e, h1, h2⟩ <;> rw [e] <;> simp [PortState.takes, *]
    rw [exec_request_settled h.toSettled (.inl (by rw [he]; rfl)), hev,
      h.request_refused t.tag act (code := .notAttached)
      (by simp [State.portRefusal, knownKind_of_encode he, s.takes_goodFrame p, htakes])]
  · refine (h.toSettled.exec (e := evAttach p tag revision name) rfl).trans ?_
    rw [evAttach, State.handle, attachForm_false hbad, request_out_of_form h _ _ rfl, if_pos (by simp)]
  · obtain ⟨act, hev⟩ := requestEvent_owned he hn
    have hready := h.ready ha
    have hexec : exec i s = .next (s.handle p t.kind t.tag true fun u => u.ownFilter p n (act u)) := by
      rw [exec_request_settled h.toSettled (.inl (by rw [he]; rfl)), hev]
    refine ⟨fun hnone => ?_, fun f r hf hr ho => ?_⟩ <;> rw [hexec]
    · refine congrArg _ (hready.handle_refused _ _ (knownKind_of_encode he) ?_)
      unfold State.ownFilter
      cases hf : filterOf n with
      | none => rfl
      | some f => simp [hnone f hf]
    · refine congrArg _ (hready.handle_refused _ _ (knownKind_of_encode he) ?_)
      simp [State.ownFilter, hf, hr, ho]

end Sys2Proof.Proofs.Lines
end

section
/-! PROOFS. ATTENTION (O17) and the READ views (O18, O19). -/

namespace Sys2Proof.Machine

/-! ### The class of highest priority (R163) -/

/-- The classes ahead of a class are those of lower bit. -/
theorem allClasses_split (c : NoticeClass) :
    allClasses = allClasses.take c.bit ++ c :: allClasses.drop (c.bit + 1) ∧
      ∀ d ∈ allClasses.take c.bit, d.bit < c.bit := by
  cases c <;> decide

theorem mem_allClasses (c : NoticeClass) : c ∈ allClasses := by cases c <;> decide

theorem Latches.firstUnmasked_eq_some {l : Latches} {m : BitVec 10} {c : NoticeClass} (hp : l.isPending c = true)
    (hm : masked m c = false) (hfirst : ∀ d, d.bit < c.bit → l.isPending d = true → masked m d = true) :
    l.firstUnmasked m = some c := by
  obtain ⟨hsplit, hahead⟩ := allClasses_split c
  refine List.find?_eq_some_iff_append.2 ⟨by simp [hp, hm], _, _, hsplit, fun d hd => ?_⟩
  cases hpd : l.isPending d with
  | false => rfl
  | true => simp [hfirst d (hahead d hd) hpd]

theorem Latches.firstUnmasked_eq_none {l : Latches} {m : BitVec 10} (h : ∀ c, l.isPending c = true → masked m c = true) :
    l.firstUnmasked m = none := by
  refine List.find?_eq_none.2 fun c _ => ?_
  cases hp : l.isPending c with
  | false => simp
  | true => simp [h c hp]

/-! ### READ requests (R142) -/

theorem Ready.read_ok {s : State} {p : PortNo} (h : Ready s p) (tag : Nat) {view : State → Except RefusalCode ReplyData}
    {data : ReplyData} (hv : view (s.goodFrame p) = .ok data) :
    s.read p tag view = (s.goodFrame p).answered p 3 tag (.accepted data) :=
  h.handle tag _ rfl (by rw [hv])

theorem Ready.read_error {s : State} {p : PortNo} (h : Ready s p) (tag : Nat) {view : State → Except RefusalCode ReplyData}
    {code : RefusalCode} (hv : view (s.goodFrame p) = .error code) :
    s.read p tag view = (s.goodFrame p).answered p 3 tag (.refused code) :=
  h.handle_refused tag _ rfl (by rw [hv])

/-- The view of a READ command that a ready port answers. -/
theorem Ready.exec_read {s : State} {p : PortNo} (h : Ready s p) {c : Instr} {tag : Nat}
    {view : State → Except RefusalCode ReplyData} (hc : exec c s = .next (s.event fun t => t.read p tag view))
    {data : ReplyData} (hv : view (s.goodFrame p) = .ok data) :
    exec c s = .next ((s.goodFrame p).answered p 3 tag (.accepted data)) := by
  rw [h.toSettled.exec hc, h.read_ok tag hv]

theorem Ready.exec_read_refused {s : State} {p : PortNo} (h : Ready s p) {c : Instr} {tag : Nat}
    {view : State → Except RefusalCode ReplyData} (hc : exec c s = .next (s.event fun t => t.read p tag view))
    {code : RefusalCode} (hv : view (s.goodFrame p) = .error code) :
    exec c s = .next ((s.goodFrame p).answered p 3 tag (.refused code)) := by
  rw [h.toSettled.exec hc, h.read_error tag hv]

end Sys2Proof.Machine

namespace Sys2Proof.Proofs.Reads

open Sys2Proof.Machine

/-- Settles O17: the fetch under the mask in force. -/
theorem attentionFetchesTheHighestClass : Obligations.AttentionFetchesTheHighestClass := by
  unfold Obligations.AttentionFetchesTheHighestClass
  refine ⟨fun s p tag k h hk => ?_, fun s p tag mask m h hsome hnone => ?_⟩
  · refine (h.toSettled.exec (e := evAttention p tag (some k)) rfl).trans ?_
    have hform : maskForm (some k) = false := by simp [maskForm]; omega
    rw [evAttention, hform, State.handle, h.request_badForm tag _ rfl]
  · have hform : maskForm mask = true := by
      cases mask with
      | none => rfl
      | some k => simpa [maskForm] using (hsome k rfl).1
    have hmask : ((s.goodFrame p).port p).newMask mask = m := by
      cases mask with
      | none => rw [hnone rfl, s.port_goodFrame p]; rfl
      | some k => exact (hsome k rfl).2.symm
    have hlatches : ((s.goodFrame p).port p).latches = (s.port p).latches := by rw [s.port_goodFrame p]
    have hexec : exec (.attention p tag mask) s =
        .next (((s.goodFrame p).setPort p (((s.goodFrame p).port p).fetch mask).1).answered p 4 tag
          (.accepted (((s.goodFrame p).port p).fetch mask).2)) := by
      refine (h.toSettled.exec (e := evAttention p tag mask) rfl).trans ?_
      rw [evAttention, hform, h.handle tag _ rfl rfl]
    refine ⟨fun c hp hm hfirst => ?_, fun hall => ?_⟩
    · rw [hexec, Port.fetch, hmask, hlatches, Latches.firstUnmasked_eq_some hp hm hfirst]
    · rw [← hlatches] at hall ⊢
      rw [hexec, Port.fetch, hmask, Latches.firstUnmasked_eq_none hall]

/-! ### The views -/

theorem queueLine_eq {s : State} {p : PortNo} {f : FilterNo} {r : Filter} {d : Due} {start : Int} (hr : s.filter f = some r)
    (hv : r.service = .due d start) :
    (s.goodFrame p).queueLine f =
      some ⟨f, r.owner, d.cls, d.queueTime, decide (((s.goodFrame p).port r.owner).state = .attached)⟩ := by
  have howner : (s.goodFrame p).ownerOf f = some r.owner := by simp [State.ownerOf, hr]
  have hdue : (s.goodFrame p).dueFields f = some d := by simp [State.dueFields, hr, hv]
  rw [State.queueLine, howner, hdue, State.eligible, howner, Option.any_some]
  simp only [beq_eq_decide]

/-- The eligible entries of a port are its entries where it is ATTACHED (R42). -/
theorem eligibleCount_eq (s : State) (i : PortNo) :
    s.eligibleCount i =
      if (s.port i).state = .attached then s.queue.countP fun f => decide ((s.filter f).map Filter.owner = some i)
      else 0 := by
  rw [State.eligibleCount, State.eligibleEntries, List.countP_filter]
  split
  · rename_i ha
    refine List.countP_congr fun f _ => ?_
    simp only [State.eligible, State.ownerOf, Bool.and_eq_true, beq_iff_eq, decide_eq_true_eq]
    exact ⟨And.left, fun ho => ⟨ho, by rw [ho, Option.any_some, ha]; rfl⟩⟩
  · rename_i ha
    refine List.countP_eq_zero.2 fun f _ => ?_
    simp only [State.eligible, State.ownerOf, Bool.and_eq_true, beq_iff_eq]
    rintro ⟨ho, he⟩
    rw [ho, Option.any_some, beq_iff_eq] at he
    exact ha he

/-- Of a good frame the records of its view's timers are left. -/
theorem timerRemaining_goodFrame (s : State) (p : PortNo) : (s.goodFrame p).timerRemaining = s.timerRemaining := by
  unfold State.timerRemaining State.left
  simp only [State.goodFrame_frame, State.goodFrame_bank, State.goodFrame_activeBank]

theorem recordAt_eq {s : State} {k : Nat} (h : k < s.history.length) :
    s.recordAt k = some (s.history[s.history.length - 1 - k]'(by omega)) := by
  rw [State.recordAt, List.getElem?_reverse h, List.getElem?_eq_getElem]

/-- Settles O18: each view of the state that the good frame left. -/
theorem everyReadAnswersItsView : Obligations.EveryReadAnswersItsView := by
  unfold Obligations.EveryReadAnswersItsView
  intro s p tag h
  refine ⟨fun n f hf => h.exec_read (view := viewFilter n) rfl ?_, fun k hk => h.exec_read (view := viewQueue k) rfl ?_,
    fun f r d start hr hv => queueLine_eq hr hv,
    ⟨_, h.exec_read (view := viewHeader) rfl rfl, ?_, ?_, ?_, ?_, ?_, fun i => ?_, ?_, ?_, ?_, ?_, ?_⟩,
    h.exec_read (view := viewBasin) rfl ?_, fun b k bank item hb hi => h.exec_read (view := viewPolicy b k) rfl ?_,
    fun b l k bank letter hb hl h1 h8 => h.exec_read (view := viewRecipe b l k) rfl ?_,
    fun k j x hx => h.exec_read (view := viewPlant k j) rfl ?_, fun n f hf => h.exec_read (view := viewAssign n) rfl ?_,
    fun k hk => h.exec_read (view := viewHistory k) rfl ?_,
    fun k q hq => ⟨_, h.exec_read (view := viewPorts p k) rfl (by rw [viewPorts, hq]), rfl, rfl, ?_, ?_, ?_, fun i => ⟨?_, ?_⟩⟩,
    h.exec_read (view := viewClock) rfl ?_⟩
  · simp only [viewFilter, hf, State.goodFrame_filter]
  · rw [viewQueue, if_pos hk]
    simp only [State.goodFrame_frame]
  · simp [State.headerView]
  · simp [State.headerView]
  · simp [State.headerView]
  · simp [State.headerView]
  · simp [State.headerView]
  · simp [State.headerView, State.asserted]
  · simp [State.headerView]
  · simp [State.headerView]
  · simp [State.headerView]
  · simp [State.headerView]
  · rw [State.headerView, timerRemaining_goodFrame, State.timerRemaining]
    cases s.header <;> rfl
  · simp only [viewBasin, State.basinView, State.headroom, State.goodFrame_frame, State.goodFrame_asserted,
      State.goodFrame_activeBank, plannedVolume]
  · simp only [viewPolicy, hb, hi, State.goodFrame_bank]
  · simp only [viewRecipe, hb, hl, State.goodFrame_bank, if_pos (show 1 ≤ k ∧ k ≤ stepLimit from ⟨h1, h8⟩)]
  · simp only [viewPlant, hx, State.goodFrame_frame]
  · simp only [viewAssign, hf, State.assignment, State.goodFrame_filter]
  · have hhistory : (s.goodFrame p).history = s.history := by simp
    rw [viewHistory, recordAt_eq (by rw [hhistory]; exact hk)]
    simp only [hhistory]
  · have hname : ∀ i, ((s.goodFrame p).port i).name = (s.port i).name := fun i => by
      by_cases hi : i = p
      · subst hi; rw [s.port_goodFrame]
      · rw [s.port_goodFrame_ne hi]; split <;> rfl
    exact hname q
  · simp [State.portsView]
  · simp [State.portsView]
  · exact ByPort.get_mapIdx _ _ i
  · have hcount : ((s.goodFrame p).portsView p q).eligible.get i = (s.goodFrame p).eligibleCount i := ByPort.get_mapIdx _ _ i
    rw [hcount, eligibleCount_eq]
    simp only [State.goodFrame_frame, State.goodFrame_filter]
  · simp only [viewClock, State.goodFrame_frame]

theorem portOf_none {k : Nat} (h : 3 < k) : portOf k = none := by
  rw [portOf, dif_neg (by omega)]

/-- Settles O19: the argument tests of the views. -/
theorem everyReadTestsItsArguments : Obligations.EveryReadTestsItsArguments := by
  unfold Obligations.EveryReadTestsItsArguments
  intro s p tag h
  refine ⟨fun n hn => ⟨h.exec_read_refused (view := viewFilter n) rfl ?_, h.exec_read_refused (view := viewAssign n) rfl ?_⟩,
    fun k hk => h.exec_read_refused (view := viewQueue k) rfl ?_,
    fun b k hbk => h.exec_read_refused (view := viewPolicy b k) rfl ?_,
    fun b l k hblk => h.exec_read_refused (view := viewRecipe b l k) rfl ?_,
    fun k j hkj => h.exec_read_refused (view := viewPlant k j) rfl ?_,
    fun k hk => h.exec_read_refused (view := viewHistory k) rfl ?_,
    fun k hk => h.exec_read_refused (view := viewPorts p k) rfl ?_⟩
  · simp only [viewFilter, hn]
  · simp only [viewAssign, hn]
  · rw [viewQueue, if_neg (by omega)]
  · unfold viewPolicy
    rcases hbk with hb | hk
    · simp only [hb]
    · cases bankOf b <;> simp only [hk]
  · unfold viewRecipe
    split
    · rename_i hb hl
      rw [if_neg]
      simp only [hb, hl, reduceCtorEq, false_or] at hblk
      unfold stepLimit
      omega
    · rfl
  · simp only [viewPlant, hkj]
  · have hnone : (s.goodFrame p).recordAt k = none := by
      rw [State.recordAt]
      exact List.getElem?_eq_none (by simpa using hk)
    rw [viewHistory, hnone]
  · simp only [viewPorts, portOf_none hk]

end Sys2Proof.Proofs.Reads
end

section
/-! PROOFS. The requests of the Filter Table: CONDITION (O21, O22), WASH_REQUEST (O23), WITHDRAW (O24), HOLD_OUT (O25), RELEASE and
RETURN (O26), RECONCILE (O27), and the filter timers (O29). -/

namespace Sys2Proof.Machine

/-! ### Requests about an owned filter (R152 step 4) -/

theorem State.ownFilter_owned {s : State} {p : PortNo} {n : Nat} {f : FilterNo} {r : Filter} (hn : filterOf n = some f)
    (hr : s.filter f = some r) (ho : r.owner = p) (act : FilterNo → Filter → Verdict) : s.ownFilter p n act = act f r := by
  simp only [State.ownFilter, hn, hr, if_pos ho]

/-- The command `c` at a ready port `p` asks for `act` about a filter that the port owns. -/
structure OwnRequest (s : State) (p : PortNo) (c : Instr) (kind tag : Nat) (f : FilterNo) (r : Filter)
    (act : State → FilterNo → Filter → Verdict) : Prop where
  ready : Ready s p
  known : knownKind kind = true
  filter : s.filter f = some r
  runs : exec c s = .next (s.handle p kind tag true fun t => act t f r)

theorem Ready.ownRequest {s : State} {p : PortNo} (h : Ready s p) {n : Nat} {f : FilterNo} {r : Filter}
    (hn : filterOf n = some f) (hr : s.filter f = some r) (ho : r.owner = p) {c : Instr} {kind tag : Nat}
    (act : State → FilterNo → Filter → Verdict)
    (hc : exec c s = .next (s.event fun t => t.handle p kind tag true fun u => u.ownFilter p n (act u)))
    (hk : knownKind kind = true) : OwnRequest s p c kind tag f r act where
  ready := h
  known := hk
  filter := hr
  runs := by
    have hv : (s.goodFrame p).ownFilter p n (act (s.goodFrame p)) = act (s.goodFrame p) f r :=
      State.ownFilter_owned hn ((s.goodFrame_filter p f).trans hr) ho _
    rw [h.toSettled.exec hc]
    simp only [State.handle, h.request tag _ hk, hv]

theorem OwnRequest.accepted {s : State} {p : PortNo} {c : Instr} {kind tag : Nat} {f : FilterNo} {r : Filter}
    {act : State → FilterNo → Filter → Verdict} (h : OwnRequest s p c kind tag f r act) {t : State} {d : ReplyData}
    (ha : act (s.goodFrame p) f r = .accept t d) : exec c s = .next (t.answered p kind tag (.accepted d)) := by
  rw [h.runs, h.ready.handle tag _ h.known ha]

theorem OwnRequest.refused {s : State} {p : PortNo} {c : Instr} {kind tag : Nat} {f : FilterNo} {r : Filter}
    {act : State → FilterNo → Filter → Verdict} (h : OwnRequest s p c kind tag f r act) {code : RefusalCode}
    (ha : act (s.goodFrame p) f r = .refuse code) :
    exec c s = .next ((s.goodFrame p).answered p kind tag (.refused code)) := by
  rw [h.runs, h.ready.handle_refused tag _ h.known ha]

/-! ### Entries put in their place (R28, R31) -/

/-- The entry of a filter that is DUE in the new state, and that the queue does not hold where it was ordered. -/
theorem Requeued.of_enqueue {s u : State} {f : FilterNo} (hf : u.isDue f = true) (ho : ∀ g, g ≠ f → u.filter g = s.filter g)
    (hq : u.queue.filter (· != f) = s.queue.filter (· != f)) (hnew : RotationLaw s → f ∉ u.queue) :
    Requeued s (u.enqueue f) f where
  held := (State.mem_enqueue _ _ _).2 (.inl rfl)
  others := (filter_placeEntry _ _ _).trans hq
  order := by
    intro hr
    have hout : u.queue = s.queue.filter (· != f) := by
      rw [← hq]
      refine (List.filter_eq_self.2 fun g hg => ?_).symm
      simpa using fun he : g = f => hnew hr (he ▸ hg)
    refine (Requeued.of_placed (s := s) (t := u.enqueue f) hf ho ?_).order hr
    rw [← hout]
    rfl

theorem State.isDue_of_filter {s : State} {f : FilterNo} {r : Filter} {d : Due} {start : Int} (hr : s.filter f = some r)
    (hv : r.service = .due d start) : s.isDue f = true := by
  simp [State.isDue, State.dueFields, hr, hv]

theorem State.not_isDue_of_filter {s : State} {f : FilterNo} {r : Filter} (hr : s.filter f = some r)
    (hd : ∀ d start, r.service ≠ .due d start) : s.isDue f = false := by
  simp only [State.isDue, State.dueFields, hr]
  cases hv : r.service with
  | due d start => exact absurd hv (hd d start)
  | _ => rfl

theorem State.filter_addReasons_inService {s : State} {f : FilterNo} {r : Filter} {start : Int} (hr : s.filter f = some r)
    (hv : r.service = .inService start) {new : Reasons} (hn : new.isNonempty = true) :
    (s.addReasons f new).filter f = some { r with service := .due ⟨new, new.cls, s.clock⟩ start } ∧
      ∀ g, g ∈ (s.addReasons f new).queue ↔ g = f ∨ g ∈ s.queue := by
  rw [State.addReasons_inService hr hv hn]
  exact ⟨State.filter_setFilter _ _ _, fun g => State.mem_enqueue _ _ _⟩

theorem State.filter_addReasons_rise {s : State} {f : FilterNo} {r : Filter} {d : Due} {start : Int} (hr : s.filter f = some r)
    (hv : r.service = .due d start) {new : Reasons} (h : d.cls.code < (d.reasons.join new).cls.code) :
    (s.addReasons f new).filter f =
        some { r with service := .due ⟨d.reasons.join new, (d.reasons.join new).cls, s.clock⟩ start } := by
  rw [State.addReasons_due_rise hr hv h]
  exact State.filter_setFilter _ _ _

section
variable {s u : State} {f : FilterNo} (ho : ∀ g, g ≠ f → u.filter g = s.filter g) (hq : u.queue = s.queue)
include ho hq

/-- An IN_SERVICE filter's first entry, where the record was changed before it enters. -/
theorem Requeued.addReasons_inService {r : Filter} {start : Int} (hout : s.isDue f = false) (hr : u.filter f = some r)
    (hv : r.service = .inService start) {new : Reasons} (hn : new.isNonempty = true) : Requeued s (u.addReasons f new) f := by
  rw [State.addReasons_inService hr hv hn]
  refine Requeued.of_enqueue ?_ ?_ (congrArg _ hq) fun hl hin => ?_
  · exact State.isDue_of_filter (State.filter_setFilter _ _ _) rfl
  · exact fun g hg => (State.filter_setFilter_ne u _ hg).trans (ho g hg)
  · exact absurd ((hl.member f).1 (hq ▸ hin)) (by simp [hout])

/-- The entry of a DUE filter whose class rises, where the record was changed before. -/
theorem Requeued.addReasons_rise {r : Filter} {d : Due} {start : Int} (hr : u.filter f = some r)
    (hv : r.service = .due d start) {new : Reasons} (h : d.cls.code < (d.reasons.join new).cls.code) :
    Requeued s (u.addReasons f new) f := by
  rw [State.addReasons_due_rise hr hv h]
  refine Requeued.of_enqueue ?_ ?_ ?_ fun _ hin => ?_
  · exact State.isDue_of_filter (State.filter_setFilter _ _ _) rfl
  · exact fun g hg => (State.filter_setFilter_ne (u.dequeue f) _ hg).trans (ho g hg)
  · simp [State.dequeue, hq]
  · simp [State.dequeue] at hin

end

/-- The class of reasons that join is the higher of their classes (R7). -/
theorem Reasons.cls_join (a b : Reasons) : (a.join b).cls = a.cls.max b.cls := by
  have hbit : ∀ (c : Class) (x y : Bool), (if (x || y) then c else .routine).code =
      max (if x then c else .routine).code (if y then c else Class.routine).code := by
    intro c x y
    cases x <;> cases c <;> cases y <;> rfl
  have hstation : ((a.join b).station.getD .routine).code =
      max (a.station.getD .routine).code (b.station.getD .routine).code := by
    unfold Reasons.join
    cases a.station with
    | none => exact (max_eq_right (Class.one_le_code _)).symm
    | some x =>
      cases b.station with
      | none => exact (max_eq_left (Class.one_le_code _)).symm
      | some y => exact Class.code_max x y
  have hmax : ∀ m n : Nat, Nat.max m n = max m n := fun _ _ => rfl
  apply Class.code_injective
  simp only [Reasons.cls, Class.code_max, hmax, hstation]
  rw [show (a.join b).turbidity = (a.turbidity || b.turbidity) from rfl,
    show (a.join b).headloss = (a.headloss || b.headloss) from rfl, hbit, hbit]
  omega

theorem Class.max_of_lt {a b : Class} (h : a.code < b.code) : a.max b = b := if_pos h

theorem Class.max_of_le {a b : Class} (h : b.code ≤ a.code) : a.max b = a := if_neg (Nat.not_lt.2 h)

theorem Class.code_lt_urgent {c : Class} (h : c ≠ .urgent) : c.code < Class.urgent.code := by cases c <;> simp_all [Class.code]

theorem Class.prompt_le_code {c : Class} (h : c ≠ .routine) : Class.prompt.code ≤ c.code := by cases c <;> simp_all [Class.code]

/-! ### The reasons of an entry (R6) -/

theorem Reasons.join_figures (a : Reasons) (h t : Bool) :
    a.join ⟨h, t, false, none⟩ = { a with headloss := a.headloss || h, turbidity := a.turbidity || t } := by
  obtain ⟨h', t', u', st⟩ := a
  cases st <;> simp [Reasons.join]

theorem Reasons.cls_figures (h t : Bool) :
    Reasons.cls ⟨h, t, false, none⟩ = if t then .urgent else if h then .prompt else .routine := by
  cases h <;> cases t <;> rfl

theorem Reasons.cls_ofStation (c : Class) : (Reasons.ofStation c).cls = c := by cases c <;> rfl

theorem Reasons.join_ofStation (a : Reasons) (c : Class) :
    a.join (Reasons.ofStation c) = { a with station := some ((a.station.getD c).max c) } := by
  obtain ⟨h, t, u, st⟩ := a
  cases st with
  | none => cases c <;> simp [Reasons.join, Reasons.ofStation, Reasons.clear, Class.max]
  | some x => simp [Reasons.join, Reasons.ofStation, Reasons.clear]

theorem State.takeEntry_of_filter {s : State} {e : ConditionEntry} {f : FilterNo} {r : Filter} (hn : filterOf e.filter = some f)
    (hr : s.filter f = some r) :
    s.takeEntry e = (s.setFilter f (some { r with figures := some ⟨e.headLoss, e.turbidity, s.clock⟩ })).addReasons f
      ⟨decide (s.activeBank.headLossLimit ≤ e.headLoss), decide (s.activeBank.turbidityLimit ≤ e.turbidity), false,
        none⟩ := by
  simp only [State.takeEntry, hn, State.mapFilter_some hr]
  rfl

/-! ### What a queued filter's law reads -/

theorem RotationLaw.congr {s t : State} (hs : RotationLaw s) (hf : t.filters = s.filters) (hq : t.queue = s.queue)
    (hh : t.header = s.header) : RotationLaw t := by
  obtain ⟨hqueue, hcall⟩ := RotationLaw.iff.1 hs
  exact RotationLaw.iff.2 ⟨hqueue.congr_place hq (State.place_congr hf), hcall.congr (State.place_congr hf) fun f => by rw [hh]⟩

/-- The requeueing of an entry reads the tables, the queue and the header of both states. -/
theorem Requeued.congr {s t s' t' : State} {f : FilterNo} (h : Requeued s t f) (hf : s'.filters = s.filters)
    (hq : s'.queue = s.queue) (hh : s'.header = s.header) (tf : t'.filters = t.filters) (tq : t'.queue = t.queue) :
    Requeued s' t' f where
  held := tq ▸ h.held
  others := by rw [tq, hq, h.others]
  order := fun hl => by
    rw [tq]
    exact (h.order (hl.congr hf.symm hq.symm hh.symm)).imp fun hp => by rwa [State.precedes_congr tf]

end Sys2Proof.Machine

namespace Sys2Proof.Proofs.FilterRequests

open Sys2Proof.Machine

/-! ### CONDITION -/

theorem condition_in_form {entries : List ConditionEntry} (hlo : 1 ≤ entries.length)
    (hhi : entries.length ≤ 8) : (decide (1 ≤ entries.length) && decide (entries.length ≤ 8)) = true := by
  simp [hlo, hhi]

theorem exec_condition_taken {s : State} {p : PortNo} (h : Ready s p) (tag : Nat) {entries : List ConditionEntry}
    (hlo : 1 ≤ entries.length) (hhi : entries.length ≤ 8)
    (hall : entries.findSome? ((s.goodFrame p).entryRefusal p) = none) :
    exec (.condition p tag entries) s =
      .next ((entries.foldl State.takeEntry (s.goodFrame p)).answered p 5 tag (.accepted .none)) := by
  refine (h.toSettled.exec (e := evCondition p tag entries) rfl).trans ?_
  rw [evCondition, condition_in_form hlo hhi, h.handle tag _ rfl (by rw [hall])]

theorem exec_condition_refused {s : State} {p : PortNo} (h : Ready s p) (tag : Nat) {entries : List ConditionEntry}
    (hlo : 1 ≤ entries.length) (hhi : entries.length ≤ 8) {code : RefusalCode}
    (hfirst : entries.findSome? ((s.goodFrame p).entryRefusal p) = some code) :
    exec (.condition p tag entries) s = .next ((s.goodFrame p).answered p 5 tag (.refused code)) := by
  refine (h.toSettled.exec (e := evCondition p tag entries) rfl).trans ?_
  rw [evCondition, condition_in_form hlo hhi, h.handle_refused tag _ rfl (by rw [hfirst])]

/-- The port's tests of an entry, in the state that the good frame made (R5). -/
theorem entryRefusal_goodFrame (s : State) (p : PortNo) (e : ConditionEntry) :
    (s.goodFrame p).entryRefusal p e = s.entryRefusal p e := by
  simp only [State.entryRefusal, funext (s.goodFrame_filter p)]

theorem entryRefusal_of_filter {s : State} {p : PortNo} {e : ConditionEntry} {f : FilterNo} {r : Filter}
    (hn : filterOf e.filter = some f) (hr : s.filter f = some r) :
    s.entryRefusal p e = if r.owner ≠ p then some .notOwner
      else if 4000 < e.headLoss ∨ 50000 < e.turbidity then some .range else none := by
  simp only [State.entryRefusal, hn, Option.bind_some, hr]

theorem entryRefusal_of_absent {s : State} {p : PortNo} {e : ConditionEntry}
    (h : ∀ f, filterOf e.filter = some f → s.filter f = none) : s.entryRefusal p e = some .badFilter := by
  unfold State.entryRefusal
  cases hn : filterOf e.filter with
  | none => rfl
  | some f => simp [h f hn]

/-- The entries that the port's tests pass. -/
theorem findSome_entryRefusal_passed {s : State} {p : PortNo} {entries : List ConditionEntry}
    (h : ∀ e ∈ entries, ∃ f r, filterOf e.filter = some f ∧ s.filter f = some r ∧ r.owner = p ∧
      e.headLoss ≤ 4000 ∧ e.turbidity ≤ 50000) : entries.findSome? ((s.goodFrame p).entryRefusal p) = none := by
  refine List.findSome?_eq_none_iff.2 fun e he => ?_
  obtain ⟨f, r, hn, hr, ho, hloss, hturb⟩ := h e he
  rw [entryRefusal_goodFrame, entryRefusal_of_filter hn hr, if_neg (not_not.2 ho), if_neg (by omega)]

/-- Settles O21: the first entry refused is what the list's search finds. -/
theorem conditionTakesItsEntriesInTurn : Obligations.ConditionTakesItsEntriesInTurn := by
  unfold Obligations.ConditionTakesItsEntriesInTurn
  refine ⟨fun s p tag entries h hlen => ?_, fun s p tag passed rest e code h hlen hpassed he => ?_,
    fun s p tag entries h hlo hhi hpassed => ?_⟩
  · refine (h.toSettled.exec (e := evCondition p tag entries) rfl).trans ?_
    have hform : (decide (1 ≤ entries.length) && decide (entries.length ≤ 8)) = false := by
      rcases hlen with rfl | hlen
      · rfl
      · simp; omega
    rw [evCondition, hform, State.handle, h.request_badForm tag _ rfl]
  · have hcode : s.entryRefusal p e = some code := by
      rcases he with ⟨habsent, rfl⟩ | ⟨f, r, hn, hr, ho, rfl⟩ | ⟨f, r, hn, hr, ho, hrange, rfl⟩
      · exact entryRefusal_of_absent habsent
      · rw [entryRefusal_of_filter hn hr, if_pos ho]
      · rw [entryRefusal_of_filter hn hr, if_neg (not_not.2 ho), if_pos hrange]
    have hfind : (passed ++ e :: rest).findSome? ((s.goodFrame p).entryRefusal p) = some code := by
      rw [List.findSome?_append, findSome_entryRefusal_passed hpassed, Option.none_or, List.findSome?_cons,
        entryRefusal_goodFrame, hcode]
    exact exec_condition_refused h tag (by simp; omega) hlen hfind
  · exact exec_condition_taken h tag hlo hhi (findSome_entryRefusal_passed hpassed)

/-- Settles O22: an entry's reasons joined to those that stand, by what they do to the class. -/
theorem anEntryAtALimitMakesTheFilterDue : Obligations.AnEntryAtALimitMakesTheFilterDue := by
  unfold Obligations.AnEntryAtALimitMakesTheFilterDue
  intro s e f r hn hr
  rw [State.takeEntry_of_filter hn hr]
  generalize hx : ({ r with figures := some ⟨e.headLoss, e.turbidity, s.clock⟩ } : Filter) = x
  have hservice : x.service = r.service := by rw [← hx]
  generalize hu : s.setFilter f (some x) = u
  have hux : u.filter f = some x := by rw [← hu, State.filter_setFilter]
  have hclock : u.clock = s.clock := by simp [← hu]
  have hqueue : u.queue = s.queue := by simp [← hu]
  have hother : ∀ g, g ≠ f → u.filter g = s.filter g := fun g hg => by rw [← hu, State.filter_setFilter_ne _ _ hg]
  generalize hnew : (⟨decide (s.activeBank.headLossLimit ≤ e.headLoss), decide (s.activeBank.turbidityLimit ≤ e.turbidity),
    false, none⟩ : Reasons) = new
  have hsome : new.isNonempty = true ↔
      s.activeBank.turbidityLimit ≤ e.turbidity ∨ s.activeBank.headLossLimit ≤ e.headLoss := by
    simp [← hnew, Reasons.isNonempty, or_comm]
  have hclass : new.cls = if s.activeBank.turbidityLimit ≤ e.turbidity then .urgent
      else if s.activeBank.headLossLimit ≤ e.headLoss then .prompt else .routine := by
    simp only [← hnew, Reasons.cls_figures, decide_eq_true_eq]
  refine ⟨fun start hv => ⟨fun ht => ?_, fun ht hl => ?_, fun ht hl => ?_⟩, fun start hv hreached => ?_,
    fun d start reasons hv hcls hreasons => ?_, fun hi hd => ?_⟩
  · obtain ⟨hf, hmem⟩ := State.filter_addReasons_inService hux (hservice.trans hv) (hsome.2 (.inl ht))
    refine ⟨?_, hqueue ▸ hmem⟩
    rw [hf, hclass, if_pos ht, hclock, ← hnew, decide_eq_true ht, ← hx]
  · obtain ⟨hf, hmem⟩ := State.filter_addReasons_inService hux (hservice.trans hv) (hsome.2 (.inr hl))
    refine ⟨?_, hqueue ▸ hmem⟩
    rw [hf, hclass, if_neg (by omega), if_pos hl, hclock, ← hnew, decide_eq_true hl, decide_eq_false (by omega), ← hx]
  · rw [State.addReasons_none hux (hservice.trans hv) (by rw [Bool.eq_false_iff, ne_eq, hsome]; omega), ← hu]
  · exact Requeued.addReasons_inService hother hqueue (State.not_isDue_of_filter hr fun d st => by simp [hv]) hux
      (hservice.trans hv) (hsome.2 hreached)
  · have hjoin : d.reasons.join new = reasons := by rw [← hnew, Reasons.join_figures, hreasons]
    have hjoined : reasons.cls = d.cls.max new.cls := by rw [← hjoin, Reasons.cls_join, hcls]
    have hrise : d.cls.code < new.cls.code →
        (u.addReasons f new).filter f = some { r with
          figures := some ⟨e.headLoss, e.turbidity, s.clock⟩, service := .due ⟨reasons, new.cls, s.clock⟩ start } ∧
        Requeued s (u.addReasons f new) f := fun hlt => by
      have hlt' : d.cls.code < (d.reasons.join new).cls.code := by rwa [hjoin, hjoined, Class.max_of_lt hlt]
      refine ⟨?_, Requeued.addReasons_rise hother hqueue hux (hservice.trans hv) hlt'⟩
      rw [State.filter_addReasons_rise hux (hservice.trans hv) hlt', hjoin, hjoined, Class.max_of_lt hlt, hclock, ← hx]
    refine ⟨fun ht hd => ?_, fun ht hl hd => ?_, fun ht hl => ?_⟩
    · rw [if_pos ht] at hclass
      exact hclass ▸ hrise (hclass ▸ Class.code_lt_urgent hd)
    · rw [if_neg (by omega), if_pos hl] at hclass
      exact hclass ▸ hrise (by rw [hclass, hd]; decide)
    · have hle : new.cls.code ≤ d.cls.code := by
        rw [hclass]
        split
        · rw [ht ‹_›]
        · split
          · exact Class.prompt_le_code (hl ‹_›)
          · exact Class.one_le_code _
      rw [State.addReasons_due_keep hux (hservice.trans hv) (by rw [hjoin, hjoined, Class.max_of_le hle]), hjoin, ← hu,
        State.setFilter_setFilter, ← hx]
  · rw [State.addReasons_other hux (by rwa [hservice]) (by rwa [hservice]), ← hu]

/-! ### WASH_REQUEST -/

/-- WASH_REQUEST of an owned filter. -/
theorem ownWashRequest {s : State} {p : PortNo} (h : Ready s p) (tag : Nat) {n : Nat} {f : FilterNo} {r : Filter}
    (hn : filterOf n = some f) (hr : s.filter f = some r) (ho : r.owner = p) (cls : Nat) :
    OwnRequest s p (.washRequest p tag n cls) 6 tag f r fun t f r => t.washRequest f r cls :=
  h.ownRequest hn hr ho _ rfl rfl

theorem washRequest_taken {s : State} {f : FilterNo} {r : Filter} {cls : Nat} {c : Machine.Class} (hc : classOf cls = some c)
    (hv : (∃ start, r.service = .inService start) ∨ ∃ d start, r.service = .due d start) :
    s.washRequest f r cls = .accept (s.addReasons f (Reasons.ofStation c)) .none := by
  rcases hv with ⟨start, hv⟩ | ⟨d, start, hv⟩ <;> simp only [State.washRequest, hv, hc]

theorem washRequest_no_class {s : State} {f : FilterNo} {r : Filter} {cls : Nat} (hc : classOf cls = none)
    (hv : (∃ start, r.service = .inService start) ∨ ∃ d start, r.service = .due d start) :
    s.washRequest f r cls = .refuse .range := by
  rcases hv with ⟨start, hv⟩ | ⟨d, start, hv⟩ <;> simp only [State.washRequest, hv, hc]

theorem washRequest_out_of_place {s : State} {f : FilterNo} {r : Filter} (cls : Nat)
    (hi : ∀ start, r.service ≠ .inService start) (hd : ∀ d start, r.service ≠ .due d start) :
    s.washRequest f r cls = .refuse .wrongState := by
  unfold State.washRequest
  cases hv : r.service with
  | inService start => exact absurd hv (hi start)
  | due d start => exact absurd hv (hd d start)
  | _ => rfl

/-- The replies at a port after an answer to a good frame that changed no port further. -/
theorem replies_answered {s u : State} {p : PortNo} (hu : u.ports = (s.goodFrame p).ports) (kind tag : Nat) (a : Answer) :
    ((u.answered p kind tag a).port p).replies = (s.port p).replies ++ [⟨kind, tag, a⟩] := by
  have hport : u.port p = (s.goodFrame p).port p := by simp only [State.port, hu]
  rw [State.port_answered, hport, s.port_goodFrame p]

/-- Settles O23: the reason STATION joined to those that stand, by what it does to the class. -/
theorem washRequestMakesAFilterDue : Obligations.WashRequestMakesAFilterDue := by
  unfold Obligations.WashRequestMakesAFilterDue
  intro s p tag n cls f r h hn hr ho
  have hown := ownWashRequest h tag hn hr ho cls
  have hrg : (s.goodFrame p).filter f = some r := (s.goodFrame_filter p f).trans hr
  refine ⟨fun start c hv hc => ?_, fun d start c hv hc => ?_, fun hv hc => ?_, fun hi hd => ?_⟩
  · rw [hown.accepted (washRequest_taken hc (.inl ⟨start, hv⟩)), State.addReasons_inService hrg hv (by rfl),
      Reasons.cls_ofStation]
    simp only [State.goodFrame_frame]
    rfl
  · have hacc := hown.accepted (washRequest_taken hc (.inr ⟨d, start, hv⟩))
    have hreplies := replies_answered (s := s) (p := p) (u := (s.goodFrame p).addReasons f (Reasons.ofStation c)) (by simp) 6 tag
      (.accepted .none)
    have hjoin := Reasons.join_ofStation d.reasons c
    have hjoined : d.cls = d.reasons.cls → (d.reasons.join (Reasons.ofStation c)).cls = d.cls.max c := fun hcls => by
      rw [Reasons.cls_join, Reasons.cls_ofStation, hcls]
    rcases Nat.lt_or_ge d.cls.code (d.reasons.join (Reasons.ofStation c)).cls.code with hrise | hkeep
    · have hrequeued : Requeued s ((s.goodFrame p).addReasons f (Reasons.ofStation c)) f :=
        Requeued.addReasons_rise (fun g _ => s.goodFrame_filter p g) (by simp) hrg hv hrise
      refine ⟨_, ⟨_, _, _⟩, hacc, (State.filter_addReasons_rise hrg hv hrise), hjoin, fun hle => ?_, fun _ => ?_, hjoined,
        fun _ _ => hrequeued.congr rfl rfl rfl (by simp) (by simp), hreplies⟩
      · exact absurd hrise (Nat.not_lt.2 hle)
      · simp
    · have hadd := State.addReasons_due_keep hrg hv hkeep
      have hlow : d.cls = d.reasons.cls → ¬ d.cls.code < c.code := fun hcls hlt => by
        rw [hjoined hcls, Class.max_of_lt hlt] at hkeep
        omega
      refine ⟨_, { d with reasons := d.reasons.join (Reasons.ofStation c) }, hacc, ?_, hjoin, fun _ => ⟨rfl, ?_⟩,
        fun hlt => absurd hlt (lt_irrefl _), fun hcls => (if_neg (hlow hcls)).symm,
        fun hcls hlt => absurd hlt (hlow hcls), hreplies⟩
      · rw [State.answered_filter, hadd, State.filter_setFilter]
      · simp [hadd]
  · exact hown.refused (washRequest_no_class hc hv)
  · exact hown.refused (washRequest_out_of_place cls hi hd)

/-! ### WITHDRAW -/

/-- A filter withdrawn, with the expiry that may follow at once (R13). -/
theorem withdraw_due {s : State} {f : FilterNo} {r : Filter} {d : Due} {start : Int} (hr : s.filter f = some r)
    (hv : r.service = .due d start) :
    s.withdraw f r =
      .accept (((s.setFilter f (some { r with service := .inService start })).dequeue f).expireRunTime f) .none := by
  simp only [State.withdraw, hv, State.setService_some hr]

theorem withdraw_other {s : State} {f : FilterNo} {r : Filter} (hd : ∀ d start, r.service ≠ .due d start) :
    s.withdraw f r = .refuse .wrongState := by
  unfold State.withdraw
  cases hv : r.service with
  | due d start => exact absurd hv (hd d start)
  | _ => rfl

/-- Settles O24: the filter is IN_SERVICE again, and the run-time expiry is asked of it there. -/
theorem withdrawReturnsADueFilter : Obligations.WithdrawReturnsADueFilter := by
  unfold Obligations.WithdrawReturnsADueFilter
  refine ⟨fun s p tag n f r h hn hr ho hd => ?_, fun s p tag n f r d start h hn hr ho hv => ?_⟩
  · exact (h.ownRequest hn hr ho (fun t => t.withdraw) rfl rfl).refused (withdraw_other hd)
  · have hacc := (h.ownRequest (c := .withdraw p tag n) hn hr ho (fun t => t.withdraw) rfl rfl).accepted
      (withdraw_due ((s.goodFrame_filter p f).trans hr) hv)
    generalize hu : ((s.goodFrame p).setFilter f (some { r with service := .inService start })).dequeue f = u at hacc ⊢
    have hf : u.filter f = some { r with service := .inService start } := by rw [← hu]; exact State.filter_setFilter _ _ _
    have hover : u.runTimeOver start = s.runTimeOver start := by rw [← hu]; simp
    rw [State.expireRunTime_inService hf rfl, hover] at hacc
    refine ⟨fun hno => ?_, fun hyes => ?_⟩
    · rwa [hno, if_neg Bool.false_ne_true] at hacc
    · rw [if_pos hyes] at hacc
      refine ⟨_, hacc, ?_, ?_⟩
      · rw [State.answered_filter, State.enqueue_filter, State.filter_setFilter, ← hu]
        simp
      · simp

/-! ### HOLD_OUT -/

theorem ownHoldOut {s : State} {p : PortNo} (h : Ready s p) (tag : Nat) {n : Nat} {f : FilterNo} {r : Filter}
    (hn : filterOf n = some f) (hr : s.filter f = some r) (ho : r.owner = p) (forced : Nat) :
    OwnRequest s p (.holdOut p tag n forced) 13 tag f r fun t f r => t.holdOut f r (flagOf forced) :=
  h.ownRequest hn hr ho _ rfl rfl

/-- A filter that leaves service on request: forced, above the floor, or not in the count (R14). -/
theorem holdOut_taken {s : State} {f : FilterNo} {r : Filter} (hr : s.filter f = some r) {forced : Bool}
    (h : (r.service.inCount = true ∧ (forced || s.floorAllows) = true) ∨ r.service = .unknown ∨
      ∃ start, r.service = .ripening start) :
    s.holdOut f r forced = .accept ((s.setFilter f (some { r with
      service := .heldOut (if forced then .stationForced else .station) })).dequeue f) .none := by
  unfold State.holdOut
  rw [State.setService_some hr]
  rcases h with ⟨hin, hfloor⟩ | hv | ⟨start, hv⟩
  · cases hv : r.service with
    | inService start => exact if_pos hfloor
    | due d start => exact if_pos hfloor
    | _ => simp [hv, Service.inCount] at hin
  · rw [hv]
  · rw [hv]

theorem holdOut_at_floor {s : State} {f : FilterNo} {r : Filter} (hin : r.service.inCount = true) (hfloor : s.floorAllows = false) :
    s.holdOut f r false = .refuse .floor := by
  unfold State.holdOut
  cases hv : r.service with
  | inService start => exact if_neg (by simp [hfloor])
  | due d start => exact if_neg (by simp [hfloor])
  | _ => simp [hv, Service.inCount] at hin

theorem holdOut_out_of_place {s : State} {f : FilterNo} {r : Filter} (forced : Bool)
    (h : (∃ d start, r.service = .called d start ∨ r.service = .washing d start) ∨ ∃ reason, r.service = .heldOut reason) :
    s.holdOut f r forced = .refuse .wrongState := by
  unfold State.holdOut
  rcases h with ⟨d, start, hv | hv⟩ | ⟨reason, hv⟩ <;> rw [hv]

theorem floorAllows_goodFrame (s : State) (p : PortNo) :
    (s.goodFrame p).floorAllows = decide (s.activeBank.floor + 1 ≤ s.inServiceCount) := by
  simp [State.floorAllows]

/-- Settles O25: the floor is tested of a filter in the count alone. -/
theorem holdOutTestsTheFloor : Obligations.HoldOutTestsTheFloor := by
  unfold Obligations.HoldOutTestsTheFloor
  intro s p tag n forced f r h hn hr ho
  have hown := ownHoldOut h tag hn hr ho forced
  refine ⟨fun hcase => ?_, fun hin hforced hfloor => ?_, fun hcase => ?_⟩
  · have hflag : (if flagOf forced then HeldReason.stationForced else .station) =
        if forced = 0 then .station else .stationForced := by
      by_cases hz : forced = 0 <;> simp [flagOf, hz]
    rw [← hflag]
    refine hown.accepted (holdOut_taken ((s.goodFrame_filter p f).trans hr) (hcase.imp_left fun ⟨hin, hfloor⟩ => ⟨hin, ?_⟩))
    rw [floorAllows_goodFrame]
    simpa [flagOf] using hfloor
  · subst hforced
    exact hown.refused (holdOut_at_floor hin (by rw [floorAllows_goodFrame]; simp; omega))
  · exact hown.refused (holdOut_out_of_place _ hcase)

/-! ### RELEASE and RETURN -/

theorem enterService_of_filter {s : State} {f : FilterNo} {r : Filter} (hr : s.filter f = some r) :
    s.enterService f = s.setFilter f (some { r with service := .inService s.clock, lapses := 0 }) :=
  State.mapFilter_some hr _

theorem release_other {s : State} {f : FilterNo} {r : Filter} (h : ∀ reason, r.service ≠ .heldOut reason) :
    s.release f r = .refuse .wrongState := by
  unfold State.release
  cases hv : r.service with
  | heldOut reason => exact absurd hv (h reason)
  | _ => rfl

theorem returnFilter_ripening {s : State} {f : FilterNo} {r : Filter} {start : Nat} (hv : r.service = .ripening start) :
    s.returnFilter f r = if s.isRipe r start then .accept (s.enterService f) .none else .refuse .notRipe := by
  simp only [State.returnFilter, hv]

theorem returnFilter_other {s : State} {f : FilterNo} {r : Filter} (h : ∀ start, r.service ≠ .ripening start) :
    s.returnFilter f r = .refuse .wrongState := by
  unfold State.returnFilter
  cases hv : r.service with
  | ripening start => exact absurd hv (h start)
  | _ => rfl

/-- Settles O26: the table of R15 and R17 by the service state. -/
theorem releaseAndReturnEnterService : Obligations.ReleaseAndReturnEnterService := by
  unfold Obligations.ReleaseAndReturnEnterService
  intro s p tag n f r h hn hr ho
  have hrelease := h.ownRequest (c := .release p tag n) hn hr ho (fun t => t.release) rfl rfl
  have hreturn := h.ownRequest (c := .returnFilter p tag n) hn hr ho (fun t => t.returnFilter) rfl rfl
  have henter : (s.goodFrame p).enterService f =
      (s.goodFrame p).setFilter f (some { r with service := .inService s.clock, lapses := 0 }) := by
    rw [enterService_of_filter ((s.goodFrame_filter p f).trans hr)]
    simp only [State.goodFrame_frame]
  refine ⟨fun reason hv => ?_, fun start x hv hx htime hclear => ?_, fun start hv hno => ?_, fun hv => ?_, fun hv => ?_⟩
  · rw [← henter]
    exact hrelease.accepted (by simp only [State.release, hv])
  · rw [← henter]
    refine hreturn.accepted ((returnFilter_ripening hv).trans (if_pos ?_))
    simp [State.isRipe, hx, htime, hclear]
  · refine hreturn.refused ((returnFilter_ripening hv).trans (if_neg ?_))
    cases hx : r.figures with
    | none => simp [State.isRipe, hx]
    | some x =>
      have := hno x hx
      simp [State.isRipe, hx]
      omega
  · exact hrelease.refused (release_other hv)
  · exact hreturn.refused (returnFilter_other hv)

/-! ### RECONCILE -/

theorem ownReconcile {s : State} {p : PortNo} (h : Ready s p) (tag : Nat) {n : Nat} {f : FilterNo} {r : Filter}
    (hn : filterOf n = some f) (hr : s.filter f = some r) (ho : r.owner = p) (k hours : Nat) :
    OwnRequest s p (.reconcile p tag n k hours) 15 tag f r fun t f r => t.reconcile f r k hours :=
  h.ownRequest hn hr ho _ rfl rfl

theorem reconcile_unknown {s : State} {f : FilterNo} {r : Filter} {k hours : Nat} {d : Declared} (hv : r.service = .unknown)
    (hk : declaredOf k = some d) (hh : hours ≤ 240) : s.reconcile f r k hours = .accept (s.applyDeclared f hours d) .none := by
  simp only [State.reconcile, hv, hk, if_pos hh]

theorem reconcile_out_of_range {s : State} {f : FilterNo} {r : Filter} {k hours : Nat} (hv : r.service = .unknown)
    (h : 240 < hours ∨ declaredOf k = none) : s.reconcile f r k hours = .refuse .range := by
  simp only [State.reconcile, hv]
  cases hk : declaredOf k with
  | none => rfl
  | some d => exact if_neg (by simp [hk] at h; omega)

theorem reconcile_other {s : State} {f : FilterNo} {r : Filter} (k hours : Nat) (hv : r.service ≠ .unknown) :
    s.reconcile f r k hours = .refuse .wrongState := by
  unfold State.reconcile
  cases hs : r.service with
  | unknown => exact absurd hs hv
  | _ => rfl

/-- A filter declared IN_SERVICE, with the expiry that may follow at once (R171). -/
theorem applyDeclared_inService {s : State} {f : FilterNo} {r : Filter} (hr : s.filter f = some r) (hours : Nat) :
    s.applyDeclared f hours .inService =
      if s.runTimeOver (s.declaredStart hours) = true then
        (s.setFilter f (some { r with
          service := .due ⟨⟨false, false, true, none⟩, .routine, s.clock⟩ (s.declaredStart hours) })).enqueue f
      else s.setFilter f (some { r with service := .inService (s.declaredStart hours) }) := by
  rw [State.applyDeclared, State.setService_some hr,
    State.expireRunTime_inService (r := { r with service := .inService (s.declaredStart hours) })
      (State.filter_setFilter _ _ _) rfl]
  simp only [State.setFilter_runTimeOver, State.setFilter_setFilter, State.setFilter_clock]

/-- A filter declared in need of a wash (R171). -/
theorem applyDeclared_needsWash {s : State} {f : FilterNo} {r : Filter} (hr : s.filter f = some r) (hours : Nat)
    {queued : State} (hq : queued = (s.setFilter f (some { r with
      service := .due ⟨⟨false, false, false, some .prompt⟩, .prompt, s.clock⟩ (s.declaredStart hours) })).enqueue f) :
    s.applyDeclared f hours .needsWash =
      if s.runTimeOver (s.declaredStart hours) = true then
        queued.setFilter f (some { r with
          service := .due ⟨⟨false, false, true, some .prompt⟩, .prompt, s.clock⟩ (s.declaredStart hours) })
      else queued := by
  have hf : queued.filter f = some { r with
      service := .due ⟨Reasons.ofStation .prompt, .prompt, s.clock⟩ (s.declaredStart hours) } := by
    rw [hq]; exact State.filter_setFilter _ _ _
  have hover : queued.runTimeOver (s.declaredStart hours) = s.runTimeOver (s.declaredStart hours) := by rw [hq]; simp
  have happly : s.applyDeclared f hours .needsWash = queued.expireRunTime f := by
    rw [State.applyDeclared, State.setService_some hr, hq]; rfl
  rw [happly, State.expireRunTime_due hf rfl (by rfl), hover]
  rfl

/-- Settles O27: the three declarations of R171, and the run-time expiry where it follows. -/
theorem reconcileDeclaresAFilter : Obligations.ReconcileDeclaresAFilter := by
  unfold Obligations.ReconcileDeclaresAFilter
  refine ⟨fun s p tag n k hours f r h hn hr ho hv => ?_, fun s p tag n hours f r h hn hr ho hv => ?_⟩
  · exact (ownReconcile h tag hn hr ho k hours).refused (reconcile_other k hours hv)
  · have hrg : (s.goodFrame p).filter f = some r := (s.goodFrame_filter p f).trans hr
    have hstart : (s.goodFrame p).declaredStart hours = (s.clock : Int) - (hours * 3600 : Nat) := by
      simp [State.declaredStart]
    have hclock : (s.goodFrame p).clock = s.clock := by simp
    have hin := applyDeclared_inService hrg hours
    have hwash := applyDeclared_needsWash hrg hours rfl
    rw [hstart, State.goodFrame_runTimeOver, hclock] at hin hwash
    have haccept : ∀ {k : Nat} {d : Declared}, hours ≤ 240 → declaredOf k = some d → exec (.reconcile p tag n k hours) s =
        .next (((s.goodFrame p).applyDeclared f hours d).answered p 15 tag (.accepted .none)) := fun hh hk =>
      (ownReconcile h tag hn hr ho _ hours).accepted (reconcile_unknown hv hk hh)
    refine ⟨fun hh hno => ⟨?_, ?_⟩, fun hh hyes => ⟨⟨_, haccept hh rfl, ?_, ?_⟩, _, haccept hh rfl, ?_, ?_⟩, fun hh => ?_,
      fun k hk => ?_⟩
    · rw [haccept hh (d := .inService) rfl, hin, hno, if_neg Bool.false_ne_true]
    · rw [haccept hh (d := .needsWash) rfl, hwash, hno, if_neg Bool.false_ne_true]
    · rw [hin, if_pos hyes]; simp
    · rw [State.answered_filter, hin, if_pos hyes]; exact State.filter_setFilter _ _ _
    · rw [hwash, if_pos hyes]; simp
    · rw [State.answered_filter, hwash, if_pos hyes]; exact State.filter_setFilter _ _ _
    · rw [haccept hh (d := .heldOut) rfl, State.applyDeclared, State.setService_some hrg]
    · exact (ownReconcile h tag hn hr ho k hours).refused (reconcile_out_of_range hv hk)

/-! ### The timers -/

/-- Settles O29: the two expiries at a settled part. -/
theorem theFilterTimersExpire : Obligations.TheFilterTimersExpire := by
  unfold Obligations.TheFilterTimersExpire
  intro s f r h hr
  have hrun : exec (.runTimeExpiry f) s = .next (s.expireRunTime f) := h.exec (e := evRunTimeExpiry f) rfl
  have hripe : exec (.ripeningExpiry f) s = .next (s.expireRipening f) := h.exec (e := evRipeningExpiry f) rfl
  refine ⟨fun start hv hover => ?_, fun d start hv hcls _ hover => ?_, fun start hv hover => ?_⟩
  · rw [hrun, State.expireRunTime_inService hr hv, if_pos hover]
  · rw [hrun, State.expireRunTime_due hr hv hcls, if_pos hover]
  · rw [hripe, State.expireRipening_ripening hr hv, if_pos hover]

end Sys2Proof.Proofs.FilterRequests
end

section
/-! PROOFS. The Selection Unit: the candidate (O30), the selection (O31, O32), and the requests and limits of holds and of the lock
(O33, O34). -/

namespace Sys2Proof.Machine

/-! ### The guard (R44) -/

theorem State.guardHolds_iff (s : State) :
    s.guardHolds = true ↔ s.header = .idle ∧ s.switch = none ∧ s.eligibleEntries ≠ [] := by
  simp [State.guardHolds, Header.isIdle_iff, and_assoc]

theorem State.eligibleEntries_congr {s t : State} (hq : t.queue = s.queue) (hf : t.filters = s.filters)
    (hp : ∀ p, (t.port p).state = (s.port p).state) : t.eligibleEntries = s.eligibleEntries := by
  rw [State.eligibleEntries, State.eligibleEntries, hq]
  refine List.filter_congr fun f _ => ?_
  simp only [State.eligible, State.ownerOf, State.filter_congr hf f, hp]

theorem State.gapDue_settling {s : State} (h : s.gapDue = true) : ∃ since taken, s.header = .settling since taken := by
  unfold State.gapDue at h
  split at h
  · exact ⟨_, _, ‹_›⟩
  · cases h

theorem Header.isFree_eq (h : Header) : h.isFree = h.wash.isNone := by cases h <;> rfl

/-- Only the evaluation is left of what follows at once where no switch and no gap is due. -/
theorem State.atOnce_of_none_due {s : State} (hs : s.switchDue = false) (hg : s.gapDue = false) : s.atOnce = s.evaluate := by
  rw [State.atOnce, State.takeSwitch_of_not_due hs, State.expireZeroGap_of_taken fun _ => hg]

theorem exec_selection {s : State} (h : s.phase = .running) : exec .selection s = .next s.atOnce :=
  congrArg Host.Outcome.next (State.event_running h evSelection)

/-- SELECTION where no switch is pending and the header is IDLE. -/
theorem exec_selection_idle {s : State} (h : s.phase = .running) (hi : s.header = .idle) (hs : s.switch = none) :
    exec .selection s = .next s.evaluate := by
  rw [exec_selection h, State.atOnce_of_none_due (State.switchDue_of_none hs) (by simp [State.gapDue, hi])]

/-- SELECTION under the guard. -/
theorem exec_selection_guard {s : State} (h : s.phase = .running) (hg : s.guardHolds = true) :
    exec .selection s = .next s.breakHold.trySelect := by
  obtain ⟨hi, hs, -⟩ := s.guardHolds_iff.1 hg
  rw [exec_selection_idle h hi hs, State.evaluate_of_guard hg]

/-! ### Broken holds (R45) -/

/-- The state in which a hold of port `p` has been broken. -/
def State.holdBroken (s : State) (p : PortNo) : State := { s with hold := none }.postTo p (.tenure .holdBroken)

theorem State.breakHold_of_rival {s : State} {h : Hold} (hh : s.hold = some h) (hr : s.rivalAt h.port .urgent = true) :
    s.breakHold = s.holdBroken h.port := by
  rw [State.breakHold, hh]
  exact if_pos hr

theorem State.breakHold_of_no_rival {s : State} {h : Hold} (hh : s.hold = some h) (hr : s.rivalAt h.port .urgent = false) :
    s.breakHold = s := by
  rw [State.breakHold, hh]
  exact if_neg (by simp [hr])

theorem State.guardHolds_holdBroken (s : State) (p : PortNo) : (s.holdBroken p).guardHolds = s.guardHolds := by
  have hport : ∀ i, ((s.holdBroken p).port i).state = (s.port i).state := fun i => by
    rw [State.holdBroken, State.port_postTo]
    split
    · subst i; rfl
    · rfl
  have heligible : (s.holdBroken p).eligibleEntries = s.eligibleEntries := State.eligibleEntries_congr rfl rfl hport
  rw [State.guardHolds, heligible]
  rfl

/-! ### The constraints (R47 to R49) -/

theorem State.passes_iff (s : State) (r : Filter) :
    s.passes r = true ↔ s.activeBank.floor + 1 ≤ s.inServiceCount ∧
      plannedVolume (s.activeBank.recipe r.letter) ≤ s.plant.capacity - s.volume ∧
      s.asserted .headerTrip = false ∧ s.asserted .supplyLow = false ∧ s.asserted .basinHigh = false := by
  have hbasin : s.basinPasses r = true ↔ plannedVolume (s.activeBank.recipe r.letter) ≤ s.plant.capacity - s.volume :=
    decide_eq_true_iff
  simp only [State.passes, State.floorPasses, State.tripsPass, hbasin, Bool.and_eq_true, decide_eq_true_eq,
    Bool.not_eq_true', and_assoc]

theorem State.trySelect_of_passes {s : State} {f : FilterNo} {r : Filter} (hc : s.candidate = some f) (hr : s.filter f = some r)
    (hp : s.passes r = true) : s.trySelect = s.select f r := by
  simp only [State.trySelect, hc, hr, if_pos hp]

theorem State.trySelect_of_not_passes {s : State}
    (h : ∀ f r, s.candidate = some f → s.filter f = some r → s.passes r = false) : s.trySelect = s := by
  rcases s.trySelect_cases with ht | ⟨f, r, hc, hr, hp, -⟩
  · exact ht
  · rw [h f r hc hr] at hp
    cases hp

/-! ### The selection (R50 to R53) -/

theorem State.callFilter_of_filter {s : State} {f : FilterNo} {r : Filter} {d : Due} {start : Int} (hr : s.filter f = some r)
    (hv : r.service = .due d start) :
    s.callFilter f = (s.setFilter f (some { r with service := .called d start })).dequeue f := by
  simp only [State.callFilter, hr, Option.map_some, hv, State.setService_some hr]

/-- What tenure can change. -/
def State.TenureOnly (s t : State) : Prop :=
  { t with holder := s.holder, budget := s.budget, hold := s.hold, holdFlags := s.holdFlags, ports := s.ports } = s

theorem State.tenureOnly_passTenure (s : State) (p : PortNo) : s.TenureOnly (s.passTenure p) := by
  unfold State.TenureOnly State.passTenure
  dsimp only
  split <;> split <;> rfl

theorem State.tenureOnly_updateTenure (s : State) (p : PortNo) (rival : Bool) : s.TenureOnly (s.updateTenure p rival) := by
  unfold State.updateTenure
  split
  · split <;> rfl
  · exact s.tenureOnly_passTenure p

/-- A passing of tenure tells the new holder what it holds, and the old one that it lost (R51, R53). -/
theorem State.tenure_passTenure {s : State} {p : PortNo} (h : s.holder ≠ some p) :
    ((s.passTenure p).port p).latches.tenure = some (if s.holdFlags.get p = true then .holdActive else .gained) ∧
      ∀ old, s.holder = some old → ((s.passTenure p).port old).latches.tenure = some .lost := by
  unfold State.passTenure
  cases hh : s.holder with
  | none =>
    refine ⟨?_, fun old ho => by cases ho⟩
    dsimp only
    split
    · rw [State.port_postTo, if_pos rfl]; rfl
    · rw [State.port_postTo, if_pos rfl]; rfl
  | some old =>
    have hne : p ≠ old := fun e => h (e ▸ hh)
    refine ⟨?_, fun o ho => ?_⟩
    · dsimp only
      split
      · rw [State.port_postTo, if_pos rfl]; rfl
      · rw [State.port_postTo, if_neg hne, State.port_postTo, if_pos rfl]; rfl
    · cases ho
      dsimp only
      split
      · rw [State.port_postTo, if_neg hne.symm]
        exact congrArg (fun q : Port => q.latches.tenure) ((State.port_postTo _ old old _).trans (if_pos rfl))
      · rw [State.port_postTo, if_pos rfl]; rfl

end Sys2Proof.Machine

namespace Sys2Proof.Proofs.Selection

open Sys2Proof.Machine

/-! ### The candidate -/

theorem entryClass_first {s : State} {first : FilterNo} {others : List FilterNo} (h : s.eligibleEntries = first :: others) :
    s.topClass = s.entryClass first := by
  simp [State.topClass, h]

/-- Settles O30: the candidate by the hold, the holder and its budget. -/
theorem tenurePrefersTheHolder : Obligations.TenurePrefersTheHolder := by
  unfold Obligations.TenurePrefersTheHolder
  intro s first others hfirst
  have hhead : s.eligibleEntries.head? = some first := by rw [hfirst]; rfl
  refine ⟨fun h hh => by rw [State.candidate, hh], fun hh p f hp hb hf => ?_, fun hh hcase => ?_⟩
  · have hpref : s.preferred = some f := by
      simp only [State.preferred, hp, if_pos hb, entryClass_first hfirst, hf]
    simp only [State.candidate, hh, hpref, Option.some_or]
  · have hpref : s.preferred = none := by
      rcases hcase with hp | hb | ⟨p, hp, hnone⟩
      · simp only [State.preferred, hp]
      · simp only [State.preferred, hb, lt_irrefl, if_false]
        split <;> rfl
      · simp only [State.preferred, hp, entryClass_first hfirst]
        split
        · refine List.find?_eq_none.2 fun g hg => ?_
          simp only [Bool.and_eq_true, beq_iff_eq]
          exact fun hgp => hnone g hg hgp.1 hgp.2
        · rfl
    simp only [State.candidate, hh, hpref, Option.none_or, hhead]

/-! ### The selection -/

/-- What a selection makes of a state, by the tenure state that it leaves. -/
theorem select_eq {s : State} {f : FilterNo} {r : Filter} {d : Due} {start : Int} (hr : s.filter f = some r)
    (hv : r.service = .due d start) :
    s.select f r = (((((s.setFilter f (some { r with service := .called d start })).dequeue f).updateTenure r.owner
      (s.rivalAt r.owner s.topClass)).withHeader (.calling (s.openWash f r))).postTo r.owner (.call f)) := by
  rw [State.select, State.callFilter_of_filter hr hv]

theorem post_call_latches (q : Port) (f : FilterNo) :
    (q.post (.call f)).latches.call = some f ∧ (q.post (.call f)).latches.tenure = q.latches.tenure := ⟨rfl, rfl⟩

/-- Settles O31: with a hold in force tenure stands, without one it is kept or passes, and a broken hold is as none. -/
theorem selectionCallsTheCandidate : Obligations.SelectionCallsTheCandidate := by
  unfold Obligations.SelectionCallsTheCandidate
  refine ⟨fun s h f r d start hrun hg hh hholder hrival hc hr hv hfloor hbasin htrip hsupply hhigh => ?_,
    fun s h hrun hg hh hrival => ?_,
    fun s f r d start hrun hg hh hc hr hv hfloor hbasin htrip hsupply hhigh => ?_⟩
  · have howner := State.owner_of_candidate hh hc hr
    have hp := (s.passes_iff r).2 ⟨hfloor, hbasin, htrip, hsupply, hhigh⟩
    refine ⟨howner, s.select f r, ?_, ?_⟩
    · rw [exec_selection_guard hrun hg, State.breakHold_of_no_rival hh hrival, State.trySelect_of_passes hc hr hp]
    · rw [select_eq hr hv, State.updateTenure, if_pos (by simp [hholder, howner]), if_neg (by simp [hh])]
      refine ⟨State.filter_setFilter _ _ _, rfl, rfl, ?_, fun i hi => ?_, rfl⟩
      · rw [State.port_postTo, if_pos rfl]; rfl
      · rw [State.port_postTo, if_neg hi]; rfl
  · have hg' : (s.holdBroken h.port).guardHolds = true := (s.guardHolds_holdBroken _).trans hg
    rw [exec_selection_guard hrun hg, State.breakHold_of_rival hh hrival]
    refine Eq.symm ((exec_selection_guard (s := s.holdBroken h.port) hrun hg').trans ?_)
    rw [State.breakHold_of_none (s := s.holdBroken h.port) rfl]
  · have hp := (s.passes_iff r).2 ⟨hfloor, hbasin, htrip, hsupply, hhigh⟩
    refine ⟨s.select f r, ?_, ?_⟩
    · rw [exec_selection_guard hrun hg, State.breakHold_of_none hh, State.trySelect_of_passes hc hr hp]
    · rw [select_eq hr hv]
      generalize hu : (s.setFilter f (some { r with service := .called d start })).dequeue f = u
      generalize s.rivalAt r.owner s.topClass = rival
      generalize hw : u.updateTenure r.owner rival = v
      have honly : u.TenureOnly v := hw ▸ u.tenureOnly_updateTenure r.owner rival
      have hcall : ((v.withHeader (.calling (s.openWash f r))).postTo r.owner (.call f)).port r.owner =
          (v.port r.owner).post (.call f) := (State.port_postTo _ _ _ _).trans (if_pos rfl)
      have hothers : ∀ i, i ≠ r.owner →
          ((v.withHeader (.calling (s.openWash f r))).postTo r.owner (.call f)).port i = v.port i := fun i hi =>
        (State.port_postTo _ _ _ _).trans (if_neg hi)
      refine ⟨?_, ?_, rfl, ?_, by rw [hcall]; rfl, fun hsame => ?_, fun hpass => ?_, ?_⟩
      · exact (State.filter_congr (congrArg State.filters honly) f).trans (by rw [← hu]; exact State.filter_setFilter _ _ _)
      · exact (congrArg State.queue honly).trans (by rw [← hu]; rfl)
      · by_cases hsame : s.holder = some r.owner
        · obtain ⟨eo, -⟩ := State.updateTenure_claims_same rival (s := u) (p := r.owner) (by rw [← hu]; exact hsame)
          exact (congrArg State.holder hw).symm.trans (eo.trans (by rw [← hu]; exact hsame))
        · obtain ⟨eo, -⟩ := State.updateTenure_claims_passed rival (s := u) (p := r.owner) (by rw [← hu]; exact hsame)
          exact (congrArg State.holder hw).symm.trans eo
      · have huh : u.holder = some r.owner := by rw [← hu]; exact hsame
        have huhold : u.hold = none := by rw [← hu]; exact hh
        have hkept : v = if rival = true then { u with budget := u.budget - 1 } else u := by
          rw [← hw, State.updateTenure, if_pos huh, huhold, Option.isNone_none, Bool.true_and]
        rw [hkept]
        subst hu
        split <;> exact ⟨hh, rfl, rfl⟩
      · have huh : u.holder ≠ some r.owner := by rw [← hu]; exact hpass
        have hpassed : u.passTenure r.owner = v := by rw [← hw, State.updateTenure, if_neg huh]
        obtain ⟨-, eh, ef⟩ := State.updateTenure_claims_passed rival huh
        obtain ⟨hgained, hlost⟩ := State.tenure_passTenure huh
        rw [hpassed] at hgained hlost
        rw [hw] at eh ef
        refine ⟨?_, ?_, ?_, by rw [hcall, ← hu] at *; exact hgained, fun old ho => ?_⟩
        · exact (congrArg State.budget hpassed).symm.trans ((u.budget_passTenure _).trans (by rw [← hu]; rfl))
        · exact eh.trans (by rw [← hu]; exact congrArg (ite _ _) hh)
        · refine (congrArg (fun flags => ByPort.get flags r.owner) ef).trans ?_
          split
          · exact ByPort.get_set _ _ _
          · exact Bool.eq_false_iff.2 ‹_›
        · have hne : old ≠ r.owner := fun e => hpass (e ▸ ho)
          rw [hothers old hne]
          exact hlost old (by rw [← hu]; exact ho)
      · have hrest := congrArg (fun x : State => { x with
          filters := s.filters, queue := s.queue, header := s.header, ports := s.ports }) honly
        subst hu
        exact hrest

/-- Settles O32: what keeps the guard from holding, and the candidate from passing. -/
theorem noSelectionIsMade : Obligations.NoSelectionIsMade := by
  unfold Obligations.NoSelectionIsMade
  refine ⟨fun s hrun hno hswitch hgap => ?_, fun s hrun hs hi hh hno => ?_, fun s h hrun hg hh hrival hfloor => ?_⟩
  · have hdue : s.switchDue = false := by
      cases hs : s.switch with
      | none => exact State.switchDue_of_none hs
      | some x =>
        rcases hswitch (by simp [hs]) with hlock | hwash
        · simp [State.switchDue, Option.isSome_iff_ne_none, hlock]
        · simp [State.switchDue, Header.isFree_eq, hwash]
    have hguard : s.guardHolds = false := by
      rw [Bool.eq_false_iff, ne_eq, State.guardHolds_iff]
      rintro ⟨hi, hs, -⟩
      exact hno.elim (· hi) (· hs)
    have hzero : s.ZeroGapTaken := fun h0 => by
      rw [Bool.eq_false_iff]
      intro hd
      obtain ⟨since, taken, hset⟩ := State.gapDue_settling hd
      exact hgap since taken hset h0
    rw [exec_selection hrun, State.atOnce, State.takeSwitch_of_not_due hdue, State.expireZeroGap_of_taken hzero,
      State.evaluate_of_not_guard hguard]
  · rw [exec_selection_idle hrun hi hs]
    cases hg : s.guardHolds with
    | false => rw [State.evaluate_of_not_guard hg]
    | true =>
      obtain ⟨-, -, hsome⟩ := s.guardHolds_iff.1 hg
      rw [State.evaluate_of_guard hg, State.breakHold_of_none hh, State.trySelect_of_not_passes fun f r hc hr => ?_]
      rw [Bool.eq_false_iff, ne_eq, State.passes_iff]
      rintro ⟨hfloor, hbasin, htrip, hsupply, hhigh⟩
      rcases hno with he | he | he | he | he | he
      · exact hsome he
      · omega
      · exact absurd hbasin (Nat.not_le.2 (he f r hc hr))
      · simp [he] at htrip
      · simp [he] at hsupply
      · simp [he] at hhigh
  · have hstay : (s.holdBroken h.port).trySelect = s.holdBroken h.port := by
      refine State.trySelect_of_not_passes fun f r _ _ => ?_
      rw [Bool.eq_false_iff, ne_eq, State.passes_iff]
      rintro ⟨hpass, -⟩
      exact absurd (Nat.le_trans hpass hfloor) (Nat.not_succ_le_self _)
    refine ⟨s.holdBroken h.port, ?_, rfl, ?_, rfl⟩
    · rw [exec_selection_guard hrun hg, State.breakHold_of_rival hh hrival, hstay]
    · exact congrArg (fun q : Port => q.latches.tenure) ((State.port_postTo _ _ _ _).trans (if_pos rfl))

/-! ### Holds and the lock -/

/-- Settles O33: the table of R54, and the standing that RELEASE_HOLD takes back. -/
theorem holdRequests : Obligations.HoldRequests := by
  unfold Obligations.HoldRequests
  intro s p tag h
  have hframe : (s.goodFrame p).holder = s.holder ∧ (s.goodFrame p).hold = s.hold ∧
      (s.goodFrame p).holdFlags = s.holdFlags ∧ (s.goodFrame p).clock = s.clock := by simp
  obtain ⟨ho, hh, hf, hc⟩ := hframe
  have hexec : ∀ {t : State} {d : ReplyData}, (s.goodFrame p).holdHeader p = .accept t d →
      exec (.holdHeader p tag) s = .next (t.answered p 16 tag (.accepted d)) := fun ha => by
    rw [h.toSettled.exec (e := evHoldHeader p tag) rfl, evHoldHeader, h.handle tag _ rfl ha]
  refine ⟨fun hp hn => hexec ?_, fun hp hs => hexec ?_, fun hp => hexec ?_, ?_⟩
  · simp only [State.holdHeader, ho, hh, hp, hn, hc, if_pos]
  · obtain ⟨x, hx⟩ := Option.ne_none_iff_exists'.1 hs
    simp only [State.holdHeader, ho, hh, hp, hx, if_pos]
  · simp only [State.holdHeader, ho, hf, if_neg hp]
  · have hport : (s.hold.any fun x => x.port == p) = decide (s.hold.map Hold.port = some p) := by
      cases s.hold <;> simp [beq_eq_decide]
    rw [h.toSettled.exec (e := evReleaseHold p tag) rfl, evReleaseHold, h.handle tag _ rfl rfl, State.dropHold, hh, hf, hport]
    simp only [decide_eq_true_eq]

/-- Settles O34: the two limits at a settled part. -/
theorem holdAndLockExpire : Obligations.HoldAndLockExpire := by
  unfold Obligations.HoldAndLockExpire
  intro s h
  refine ⟨fun x hx hdue => ?_, fun l hl hdue => ?_, fun l hl hdue => ?_⟩
  · rw [h.exec (e := evHoldLimitExpiry) rfl, evHoldLimitExpiry, State.expireHold, hx]
    refine congrArg Host.Outcome.next (if_pos ?_)
    simpa [State.holdDue, hx, State.reached] using hdue
  · rw [h.exec (e := evLockExpiry) rfl, evLockExpiry, if_pos]
    simp only [State.lockDue, hl]
    exact decide_eq_true hdue
  · rw [h.exec (e := evLockExpiry) rfl, evLockExpiry, if_neg]
    simp only [State.lockDue, hl]
    exact fun hover => absurd (of_decide_eq_true hover : 600 ≤ _) (Nat.not_le.2 hdue)

end Sys2Proof.Proofs.Selection
end

section
/-! PROOFS. The Wash Unit: drives and their pairs (O35), steps (O36, O37, O42), requests out of place (O38), calls that end (O39),
what aborts a wash (O40), gaps and stop windows (O43). -/

namespace Sys2Proof.Machine

/-! ### A change of drive (R90, R101, R103) -/

theorem State.pair_setOutputs (s : State) (new : Lines) (length : Nat) (pair : Pair) :
    (s.setOutputs new length).pair pair = (s.pair pair).driven (s.outputs.ofPair pair) (new.ofPair pair)
      (s.asserted (feedbackOf pair)) ⟨s.clock, length⟩ := by
  cases pair <;> rfl

theorem Supervision.driven_same (v : Supervision) {old new : Drive} (h : new = old) (feedback : Bool) (w : Window) :
    v.driven old new feedback w = v := if_pos h.symm

theorem Supervision.driven_on {v : Supervision} (hv : v = .resting ∨ ∃ w, v = .stopping w) (feedback : Bool) (w : Window) :
    v.driven .off .on feedback w = if feedback = true then .running else .starting w := by
  rcases hv with rfl | ⟨w', rfl⟩ <;> rfl

theorem Supervision.driven_off {v : Supervision} (hv : v = .running ∨ ∃ w, v = .starting w) (feedback : Bool) (w : Window) :
    v.driven .on .off feedback w = if feedback = true then .stopping w else .resting := by
  rcases hv with rfl | ⟨w', rfl⟩ <;> rfl

/-! ### The requests of the wash (R65, R66, R71, R80, R88) -/

theorem State.isolated_called {s : State} {f : FilterNo} {x : Filter} {d : Due} {start : Int} {w : Wash}
    (hv : x.service = .called d start) (hh : s.header = .calling w) (hf : w.filter = f) :
    s.isolated f x = .accept (s.isolate w d start) .none := by
  simp only [State.isolated, hv, hh, if_pos hf]

theorem State.isolated_other {s : State} {f : FilterNo} {x : Filter} (h : ∀ d start, x.service ≠ .called d start) :
    s.isolated f x = .refuse .wrongState := by
  unfold State.isolated
  split
  · exact absurd ‹_› (h _ _)
  · rfl

theorem State.decline_called {s : State} {f : FilterNo} {x : Filter} {d : Due} {start : Int} {w : Wash}
    (hv : x.service = .called d start) (hh : s.header = .calling w) (hf : w.filter = f) :
    s.decline f x = .accept (s.endCall w (some s.clock)) .none := by
  simp only [State.decline, hv, hh, if_pos hf]

theorem State.decline_other {s : State} {f : FilterNo} {x : Filter} (h : ∀ d start, x.service ≠ .called d start) :
    s.decline f x = .refuse .wrongState := by
  unfold State.decline
  split
  · exact absurd ‹_› (h _ _)
  · rfl

theorem State.proceed_gated {s : State} {f : FilterNo} {x : Filter} {d : Due} {start : Int} {w : Wash} {r : Run} {since : Nat}
    (hv : x.service = .washing d start) (hh : s.header = .gated w r since) (hf : w.filter = f) (k : Nat) :
    s.proceed f x k = if k = r.step then .accept (s.proceedGate w r) .none else .refuse .wrongStep := by
  simp only [State.proceed, hv, hh, if_neg (not_not.2 hf)]

theorem State.proceed_other {s : State} {f : FilterNo} {x : Filter} (k : Nat)
    (h : (∀ d start, x.service ≠ .washing d start) ∨ ∀ w r since, s.header ≠ .gated w r since) :
    s.proceed f x k = .refuse .wrongState := by
  unfold State.proceed
  split
  · rcases h with h | h
    · exact absurd ‹_› (h _ _)
    · exact absurd ‹_› (h _ _ _)
  · rfl

theorem State.abandon_washing {s : State} {f : FilterNo} {x : Filter} {d : Due} {start : Int} {w : Wash}
    (hv : x.service = .washing d start) (hh : s.header.washing = some w) (hf : w.filter = f) :
    s.abandon f x = .accept (s.abort .abandoned) .none := by
  simp only [State.abandon, hv, hh, if_pos hf]

theorem State.abandon_other {s : State} {f : FilterNo} {x : Filter} (h : ∀ d start, x.service ≠ .washing d start) :
    s.abandon f x = .refuse .wrongState := by
  unfold State.abandon
  split
  · exact absurd ‹_› (h _ _)
  · rfl

/-! ### A part that is washing is settled -/

theorem Settled.of_stepping {s : State} {w : Wash} {r : Run} (hp : s.phase = .running) (hh : s.header = .stepping w r) :
    Settled s where
  running := hp
  atOnce := by
    rw [State.atOnce_of_none_due (by simp [State.switchDue, hh, Header.isFree]) (by simp [State.gapDue, hh]),
      State.evaluate_of_not_guard (by simp [State.guardHolds, hh, Header.isIdle])]

/-! ### Completion (R75, R82) -/

/-- A completion whose inflow is charged, field by field. -/
theorem State.complete_of_charged {s : State} {w : Wash} {r : Run} (hh : s.header = .stepping w r)
    (hc : ∀ a, s.accrual = some a → a.charged = true) : s.complete = s.completeWash w r := by
  rw [State.complete, State.chargeAccrual_of_charged hc, hh]

theorem State.complete_of_uncharged {s : State} {w : Wash} {r : Run} {a : Accrual} (hh : s.header = .stepping w r)
    (ha : s.accrual = some a) (hc : a.charged = false) :
    s.complete = State.complete { s with
      header := .stepping { w with volumeAdded := w.volumeAdded + a.inflow } r
      accrual := some { a with charged := true } } := by
  have hcharge : s.chargeAccrual = { s with
      header := .stepping { w with volumeAdded := w.volumeAdded + a.inflow } r
      accrual := some { a with charged := true } } := by
    rw [State.chargeAccrual_of_uncharged ha hc, hh]
    rfl
  rw [State.complete, hcharge, State.complete_of_charged rfl fun b hb => by cases hb; rfl]

end Sys2Proof.Machine

namespace Sys2Proof.Proofs.Washes

open Sys2Proof.Machine

/-- Settles O35: the supervision of the pair meets its change of drive. -/
theorem aDriveChangeReachesItsPair : Obligations.ADriveChangeReachesItsPair := by
  unfold Obligations.ADriveChangeReachesItsPair
  intro s new length
  refine ⟨rfl, rfl, fun pair => ⟨fun hsame => ?_, fun hold hnew hv => ?_, fun hold hnew hv => ?_⟩⟩
  · rw [State.pair_setOutputs, Supervision.driven_same _ hsame]
  · rw [State.pair_setOutputs, hold, hnew, Supervision.driven_on hv]
  · rw [State.pair_setOutputs, hold, hnew, Supervision.driven_off hv]

/-- Settles O36: the branches of R70 and R73. -/
theorem aStepDueWaitsOrBegins : Obligations.AStepDueWaitsOrBegins := by
  unfold Obligations.AStepDueWaitsOrBegins
  intro s w r st isolation n
  refine ⟨fun hg => ?_, fun hg => ?_, fun ht => ?_, fun ht => ⟨fun hs hr => ?_, fun hs hr => ?_, fun hs hb hr => ?_,
    fun hs hb => ?_⟩⟩
  · rw [State.stepDue, if_pos hg]; rfl
  · rw [State.stepDue, if_neg (by simp [hg])]
  · rw [State.beginStep, if_pos ht]
  all_goals rw [State.beginStep, if_neg (by simp [ht])]
  · rw [if_pos (by simpa using hs), hr]; rfl
  · rw [if_pos (by simp [hs]), hr, if_pos hs]
  · rw [if_pos (by simp [hb]), hr, if_neg (by simp [hs])]
  · rw [if_neg (by simp [hs, hb])]; rfl

/-- Settles O37: the filter becomes WASHING with step 1 due; the gated step begins. -/
theorem isolatedAndProceedBeginSteps : Obligations.IsolatedAndProceedBeginSteps := by
  unfold Obligations.IsolatedAndProceedBeginSteps
  intro s p tag n f x d start w h hn hx ho hf
  have hframe : (s.goodFrame p).header = s.header ∧ (s.goodFrame p).clock = s.clock := by simp
  have hxg := (s.goodFrame_filter p f).trans hx
  have hproceed : ∀ k, OwnRequest s p (.proceed p tag n k) 10 tag f x fun t f x => t.proceed f x k := fun k =>
    h.ownRequest hn hx ho _ rfl rfl
  refine ⟨fun st hv hh hst => ?_, fun r since st hv hh hst => ?_, fun r since k hv hh hk => ?_⟩
  · rw [(h.ownRequest (c := .isolated p tag n) hn hx ho (fun t => t.isolated) rfl rfl).accepted
      (State.isolated_called hv (hframe.1.trans hh) hf), State.isolate, hst, hf, State.setService_some hxg, hframe.2]
  · rw [(hproceed _).accepted ((State.proceed_gated hv (hframe.1.trans hh) hf _).trans (if_pos rfl)), State.proceedGate, hst]
  · exact (hproceed k).refused ((State.proceed_gated hv (hframe.1.trans hh) hf k).trans (if_neg hk))

/-- Settles O38: each request of the wash asks for one service state. -/
theorem washRequestsOutOfPlaceAreRefused : Obligations.WashRequestsOutOfPlaceAreRefused := by
  unfold Obligations.WashRequestsOutOfPlaceAreRefused
  intro s p tag n step f x h hn hx ho
  have hheader : (s.goodFrame p).header = s.header := by simp
  refine ⟨fun hv => ⟨?_, ?_⟩, fun hv => ?_, fun hv => ?_⟩
  · exact (h.ownRequest hn hx ho (fun t => t.isolated) rfl rfl).refused (State.isolated_other hv)
  · exact (h.ownRequest hn hx ho (fun t => t.decline) rfl rfl).refused (State.decline_other hv)
  · exact (h.ownRequest hn hx ho (fun t => t.abandon) rfl rfl).refused (State.abandon_other hv)
  · exact (h.ownRequest hn hx ho (fun t f x => t.proceed f x step) rfl rfl).refused
      (State.proceed_other step (hheader.symm ▸ hv))

/-! ### Calls that end -/

theorem lapse_of_filter {s : State} {w : Wash} {x : Filter} (hx : s.filter w.filter = some x) :
    s.lapse w =
      if lapseLimit ≤ x.lapses + 1 then
        (((s.setFilter w.filter (some { x with service := .heldOut .callLapse, lapses := x.lapses + 1 })).withHeader
          .idle).postTo w.owner (.filterHeld w.filter))
      else (s.setFilter w.filter (some { x with lapses := x.lapses + 1 })).endCall w none := by
  unfold State.lapse
  dsimp only
  rw [State.mapFilter_some hx, State.filter_setFilter]
  dsimp only
  rw [State.setService_some (State.filter_setFilter _ _ _), State.setFilter_setFilter]

/-- Settles O39: DECLINE and the call window end the call by a return to DUE, and the third lapse by a hold-out. -/
theorem aCallEndsWithoutAWash : Obligations.ACallEndsWithoutAWash := by
  unfold Obligations.ACallEndsWithoutAWash
  intro s f x d start w hs hx hv hh hf
  subst hf
  refine ⟨fun p tag n h hn ho => ?_, fun hdue => ?_⟩
  · have hframe : (s.goodFrame p).header = s.header ∧ (s.goodFrame p).clock = s.clock := by simp
    have hxg := (s.goodFrame_filter p w.filter).trans hx
    have hexec := (h.ownRequest (c := .decline p tag n) hn hx ho (fun t => t.decline) rfl rfl).accepted
      (State.decline_called hv (hframe.1.trans hh) rfl)
    rw [hframe.2, State.endCall] at hexec
    refine ⟨fun hno => ?_, fun hover hcls => ⟨_, hexec, rfl, ?_, ?_⟩⟩
    · rw [hexec, State.returnToDue_not_over hxg (.inl hv) _ (by simpa using hno)]
      rfl
    · rw [State.returnToDue_over hxg (.inl hv) _ (by simpa using hover) hcls]
      simp [State.withHeader]
    · rw [State.returnToDue_over hxg (.inl hv) _ (by simpa using hover) hcls]
      exact State.filter_setFilter _ _ _
  · have hcall : exec .callWindowExpiry s = .next (s.lapse w) := by
      rw [hs.exec (e := evCallWindowExpiry) rfl, evCallWindowExpiry, hh]
      exact congrArg Host.Outcome.next (if_pos (by simpa [State.callDue, hh, State.reached] using hdue))
    rw [hcall, lapse_of_filter hx]
    refine ⟨fun hl hno => ?_, fun hl => ?_⟩
    · rw [if_neg (by simp [lapseLimit]; omega), State.endCall,
        State.returnToDue_not_over (r := { x with lapses := x.lapses + 1 }) (State.filter_setFilter _ _ _) (.inl hv) _
          (by simpa using hno), State.setFilter_setFilter]
      rfl
    · rw [if_pos (by simp [lapseLimit]; omega)]

/-- Settles O40: each event finds its limit reached. -/
theorem whatAbortsAWash : Obligations.WhatAbortsAWash := by
  unfold Obligations.WhatAbortsAWash
  intro s w hs
  refine ⟨fun p tag n f x d start h hn hx ho hv hh hf => ?_, fun r since hh hdue => ?_, fun r since hh hdue => ?_,
    fun pair x hh hp hdue hfb => ?_⟩
  · have hheader : (s.goodFrame p).header.washing = some w := by simpa using hh
    exact (h.ownRequest hn hx ho (fun t => t.abandon) rfl rfl).accepted (State.abandon_washing hv hheader hf)
  · rw [hs.exec (e := evGateExpiry) rfl, evGateExpiry, if_pos]
    simpa [State.gateDue, hh, State.reached] using hdue
  · rw [hs.exec (e := evTripHoldLimitExpiry) rfl, evTripHoldLimitExpiry, if_pos]
    simpa [State.tripHoldDue, hh, State.reached] using hdue
  · rw [hs.exec (e := evStartWindowExpiry pair) rfl, evStartWindowExpiry, if_pos, State.feedbackFault, hh]
    · rfl
    · simp [State.startWindowDue, hp, State.windowOver, State.reached, hdue, hfb]

/-! ### Marks and step ends -/

section
variable {s : State} {w : Wash} {r : Run} {st : Step} (h : Settled s) (hh : s.header = .stepping w r)
  (hst : w.stepAt r.step = some st) (hsec : r.secondDue = true)
include h hh hst hsec

theorem exec_markReached (hmark : r.elapsed + 1 = st.mark) (hlt : st.mark < st.duration) :
    exec .markReached s = .next ((s.setOutputs (st.pattern (r.elapsed + 1)) (s.feedbackWindow w)).withHeader
      (.stepping w { r with elapsed := r.elapsed + 1, secondDue := false })) := by
  have hdue : s.markDue = true := by simp [State.markDue, hh, hst, hsec, hmark, hlt]
  rw [h.exec (e := evMarkReached) rfl, evMarkReached, hh]
  dsimp only
  rw [hst]
  exact congrArg Host.Outcome.next (if_pos hdue)

theorem exec_stepEnd_next (hend : st.duration ≤ r.elapsed + 1) {next : Step} (hn : w.stepAt (r.step + 1) = some next) :
    exec .stepEnd s = .next (s.stepDue { w with stepsCompleted := w.stepsCompleted + 1 } r.isolationTime (r.step + 1) next) := by
  have hdue : s.stepEndDue = true := by simp [State.stepEndDue, hh, hst, hsec, hend]
  rw [h.exec (e := evStepEnd) rfl, evStepEnd, hh]
  dsimp only
  rw [if_pos hdue, hn]

theorem exec_stepEnd_last (hend : st.duration ≤ r.elapsed + 1) (hn : w.stepAt (r.step + 1) = none) :
    exec .stepEnd s = .next s.complete := by
  have hdue : s.stepEndDue = true := by simp [State.stepEndDue, hh, hst, hsec, hend]
  rw [h.exec (e := evStepEnd) rfl, evStepEnd, hh]
  dsimp only
  rw [if_pos hdue, hn]

end

/-- Settles O42: the mark, the next step, and the completion with the inflow charged first. -/
theorem marksAndStepEnds : Obligations.MarksAndStepEnds := by
  unfold Obligations.MarksAndStepEnds
  intro s w r st h hh hst hsec
  refine ⟨fun hmark hlt => ?_, fun next hend hn => exec_stepEnd_next h hh hst hsec hend hn, fun a hend hn ha hc => ?_,
    fun hend hn hc => ?_⟩
  · rw [exec_markReached h hh hst hsec hmark hlt, hmark]
  · rw [exec_stepEnd_last h hh hst hsec hend hn, State.complete_of_uncharged hh ha hc]
    refine Eq.symm (exec_stepEnd_last (w := { w with volumeAdded := w.volumeAdded + a.inflow }) (r := r) (st := st) ?_ rfl hst
      hsec hend hn)
    exact Settled.of_stepping h.running rfl
  · refine ⟨s.completeWash w r, ?_, rfl, rfl, rfl, rfl, ?_, rfl, rfl, rfl, rfl, fun g hg => ?_, fun x hx => ?_⟩
    · rw [exec_stepEnd_last h hh hst hsec hend hn, State.complete_of_charged hh hc]
    · exact congrArg (fun q : Port => q.latches.washEnd) ((State.port_postTo _ _ _ _).trans (if_pos rfl))
    · exact State.filter_setFilter_ne _ _ hg
    · refine (State.filter_setFilter _ _ _).trans ?_
      simp [hx]

/-! ### Gaps and stop windows -/

theorem feedbackClear_false {s : State} {pair : Pair} (h : s.asserted (feedbackOf pair) = true) : s.feedbackClear = false := by
  cases pair <;> simp_all [State.feedbackClear, feedbackOf]

/-- Settles O43: the gap's way out of SETTLING, and the overrun by the header state. -/
theorem gapsAndStopWindows : Obligations.GapsAndStopWindows := by
  unfold Obligations.GapsAndStopWindows
  intro s h
  refine ⟨fun since hh hsw hdue => ?_, fun pair x hp hdue hfb => ?_⟩
  · have hgap : s.gapDue = true := by simpa [State.gapDue, hh, State.reached] using hdue
    have hexec : exec .gapExpiry s = .next s.takeSwitch.expireGap := rfl
    rw [hexec, State.takeSwitch_of_not_due (State.switchDue_of_none hsw), State.expireGap, hh]
    dsimp only
    rw [if_pos hgap]
    split <;> rfl
  · have hover : s.stopWindowDue pair = true := by simp [State.stopWindowDue, hp, State.windowOver, State.reached, hdue, hfb]
    have hexec : exec (.stopWindowExpiry pair) s = .next (s.setPair .overrun pair).overrunReported := by
      rw [h.exec (e := evStopWindowExpiry pair) rfl, evStopWindowExpiry, if_pos hover]
    have hheader : (s.setPair .overrun pair).header = s.header := by cases pair <;> rfl
    have hinputs : ((((s.setPair .overrun pair).withHeader .runon).postAttached (.headerFault .runon))).feedbackClear = false :=
      (State.feedbackClear_congr (s := s) (by cases pair <;> rfl)).trans (feedbackClear_false hfb)
    rw [hexec]
    refine ⟨fun w hw => ?_, fun hw => ?_⟩
    · refine congrArg Host.Outcome.next ?_
      unfold State.overrunReported
      rw [hheader]
      cases hs : s.header <;> simp_all [Header.washing]
    · have hrunon : (s.setPair .overrun pair).overrunReported = (s.setPair .overrun pair).enterRunon := by
        unfold State.overrunReported
        rw [hheader]
        rcases hw with ⟨since, taken, hs⟩ | ⟨w, r, cause, hs⟩ <;> rw [hs]
      rw [hrunon, State.enterRunon]
      exact congrArg Host.Outcome.next (if_neg (by simp [hinputs]))

end Sys2Proof.Proofs.Washes
end

section
/-! PROOFS. Inputs (O44), what a changed level does (O45, O46), and the basin account (O47). -/

namespace Sys2Proof.Machine

/-! ### Qualified levels (R96) -/

theorem State.inputs_setInput (s : State) (i : Input) (v : InputLine) : (s.setInput i v).inputs.get i = v :=
  PerInput.get_set _ _ _

theorem State.qualify_of_due {s : State} {i : Input} (hd : ((s.inputs.get i).high != s.plant.activeLow.get i) ≠ s.asserted i)
    (hr : s.plant.qualify.get i ≤ 10 * (s.inputs.get i).run) :
    s.qualify i = (s.setInput i { s.inputs.get i with asserted := !s.asserted i }).levelEffects i := by
  rw [State.qualify, if_pos]
  simp only [State.qualifyDue, State.rawActive, Bool.and_eq_true, bne_iff_ne, decide_eq_true_eq]
  exact ⟨hd, hr⟩

theorem State.qualify_of_not_due {s : State} {i : Input}
    (h : ((s.inputs.get i).high != s.plant.activeLow.get i) = s.asserted i ∨
      10 * (s.inputs.get i).run < s.plant.qualify.get i) : s.qualify i = s := by
  rw [State.qualify, if_neg]
  simp only [State.qualifyDue, State.rawActive, Bool.and_eq_true, bne_iff_ne, decide_eq_true_eq, not_and]
  exact fun hd hr => h.elim hd fun hlt => absurd hr (Nat.not_le.2 hlt)

/-! ### Pairs (R102, R104, R105) -/

theorem State.setPair_self {s : State} {pair : Pair} {v : Supervision} (h : s.pair pair = v) : s.setPair v pair = s := by
  cases pair <;> (cases h; rfl)

theorem State.levelEffects_feedback (s : State) (pair : Pair) :
    s.levelEffects (feedbackOf pair) =
      if s.asserted (feedbackOf pair) then s.feedbackAsserted pair else s.feedbackDeasserted pair := by
  cases pair <;> rfl

/-- A pair that is neither starting nor running rests once its feedback is deasserted, and the header may leave its state. -/
theorem State.feedbackDeasserted_rest {s : State} {pair : Pair} (hr : s.pair pair ≠ .running)
    (hs : ∀ x, s.pair pair ≠ .starting x) : s.feedbackDeasserted pair = (s.setPair .resting pair).windowEnded := by
  unfold State.feedbackDeasserted
  cases hp : s.pair pair with
  | running => exact absurd hp hr
  | starting x => exact absurd hp (hs x)
  | resting => rw [State.setPair_self hp]
  | stopping x => rfl
  | overrun => rfl

/-! ### The end of a stop window (R85, R86, R107) -/

theorem State.windowEnded_aborting {s : State} {w : Wash} {r : Option Run} {cause : AbortCause}
    (hh : s.header = .aborting w r cause) (ho : s.anyOverrun = false) :
    s.windowEnded = if s.anyStopping = true then s else s.withHeader (.settling s.clock false) := by
  rw [State.windowEnded, hh]
  dsimp only
  rw [State.leaveAborting, hh]
  dsimp only
  rw [if_neg (by simp [ho])]
  rfl

theorem State.windowEnded_settling {s : State} {since : Nat} {taken : Bool} (hh : s.header = .settling since taken) :
    s.windowEnded = if taken = true ∧ s.anyStopping = false then s.withHeader .idle else s := by
  rw [State.windowEnded, hh]
  simp only [Bool.and_eq_true, Bool.not_eq_true']

theorem State.windowEnded_runon {s : State} (hh : s.header = .runon) :
    s.windowEnded = if s.asserted .pumpRun = false ∧ s.asserted .blowerRun = false then s.withHeader (.settling s.clock false)
      else s := by
  rw [State.windowEnded, hh]
  simp only [State.feedbackClear, Bool.and_eq_true, Bool.not_eq_true']
  rfl

theorem State.windowEnded_other {s : State} (ha : ∀ w r cause, s.header ≠ .aborting w r cause)
    (hs : ∀ since taken, s.header ≠ .settling since taken) (hr : s.header ≠ .runon) : s.windowEnded = s := by
  unfold State.windowEnded
  split
  · exact absurd ‹_› (ha _ _ _)
  · exact absurd ‹_› (hs _ _)
  · exact absurd ‹_› hr
  · rfl

/-! ### Trips (R76, R78) -/

theorem State.tripAsserted_stepping {s : State} {w : Wash} {r : Run} {st : Step} (hh : s.header = .stepping w r)
    (hst : w.stepAt r.step = some st) (cause : AbortCause) :
    s.tripAsserted cause = if st.response = .hold then s.enterHolding w r else s.abort cause := by
  unfold State.tripAsserted
  rw [hh]
  dsimp only
  rw [hst]
  cases hr : st.response <;> simp [hr]

theorem State.tripAsserted_of_no_step {s : State} (h : s.header.current = none) (cause : AbortCause) :
    s.tripAsserted cause = s := by
  unfold State.tripAsserted
  split
  · rename_i w r hh
    have hnone : w.stepAt r.step = none := by simpa [hh, Header.current] using h
    rw [hnone]
  · rfl

theorem State.tripReleased_holding {s : State} {w : Wash} {r : Run} {since : Nat} {st : Step} (hh : s.header = .holding w r since)
    (hst : w.stepAt r.step = some st) (hs : s.asserted .supplyLow = false) (hb : s.asserted .basinHigh = false) :
    s.tripReleased = s.enterStepping w r st := by
  unfold State.tripReleased
  rw [hh]
  dsimp only
  rw [if_neg (by simp [hs, hb]), hst]

theorem State.with_switch_self {s : State} {x : Option PendingSwitch} (h : s.switch = x) : { s with switch := x } = s := by
  subst h
  rfl

theorem BankId.other_ne (b : BankId) : b.other ≠ b := by cases b <;> decide

end Sys2Proof.Machine

namespace Sys2Proof.Proofs.Inputs

open Sys2Proof.Machine

theorem exec_inputRawChange {s : State} (h : Settled s) (i : Input) (high : Bool) :
    exec (.inputRawChange i high) s = .next (evInputRawChange i high s) := by
  have hexec : exec (.inputRawChange i high) s = .next (s.event (evInputRawChange i high)) := by
    simp only [exec, execInputRawChange, h.running]
  exact h.exec hexec

/-- A raw level that moves: the measure starts afresh, and a qualify time of 0 is reached at once. -/
theorem evInputRawChange_moved {s : State} {i : Input} {high : Bool} (h : (s.inputs.get i).high ≠ high) :
    evInputRawChange i high s = (s.setInput i ⟨high, 0, s.asserted i⟩).qualify i :=
  if_pos (by simpa [State.changesRaw] using h)

/-- Settles O44: the two events meet the same test of the measure. -/
theorem inputsAreQualified : Obligations.InputsAreQualified := by
  unfold Obligations.InputsAreQualified
  intro s i high h
  have hline := s.inputs_setInput i ⟨high, 0, s.asserted i⟩
  refine ⟨fun hsame => ?_, fun hmove => ⟨fun hno => ?_, fun hq hd => ?_⟩, fun hd hr => ?_, fun hno => ?_⟩
  · rw [exec_inputRawChange h, evInputRawChange, if_neg (by simp [State.changesRaw, hsame])]
  · rw [exec_inputRawChange h, evInputRawChange_moved hmove, State.qualify_of_not_due]
    rw [hline, State.asserted_setInput]
    exact hno.symm
  · rw [exec_inputRawChange h, evInputRawChange_moved hmove, State.qualify_of_due, hline, State.setInput_setInput,
      State.asserted_setInput]
    · rw [hline, State.asserted_setInput]
      exact hd
    · exact Nat.le_trans (Nat.le_of_eq hq) (Nat.zero_le _)
  · rw [h.exec (e := evInputQualifyExpiry i) rfl, evInputQualifyExpiry, State.qualify_of_due hd hr]
  · rw [h.exec (e := evInputQualifyExpiry i) rfl, evInputQualifyExpiry, State.qualify_of_not_due hno]

/-- Settles O45: each input's level as its readers take it. -/
theorem tripBasinAndStormLevelsAct : Obligations.TripBasinAndStormLevelsAct := by
  unfold Obligations.TripBasinAndStormLevelsAct
  intro s
  refine ⟨fun h => if_pos h, fun h hl => (if_pos h).trans (State.abort_of_not_live hl _), fun h => if_neg (by simp [h]),
    fun w r st h hh hst => (if_pos h).trans (State.tripAsserted_stepping hh hst _),
    fun h hn => (if_pos h).trans (State.tripAsserted_of_no_step hn _),
    fun w r st h hh hst => ?_, fun w r since st hs hb hh hst => ⟨?_, ?_⟩, fun h => ?_, fun h => if_pos h,
    fun h => if_neg (by simp [h]), rfl, fun h => if_neg (by simp [h]), fun h => ⟨fun hc => ?_, fun hc => ?_⟩⟩
  · exact (if_pos h).trans (State.tripAsserted_stepping (s := s.setVolume s.plant.capacity) hh hst _)
  · exact (if_neg (by simp [hs])).trans (State.tripReleased_holding hh hst hs hb)
  · exact (if_neg (by simp [hb])).trans (State.tripReleased_holding hh hst hs hb)
  · have hlevel : s.levelEffects .basinHigh = (s.setVolume s.plant.capacity).tripAsserted .basinTrip := if_pos h
    rw [hlevel]
    simp [State.setVolume]
  · refine (if_pos h).trans ?_
    exact if_pos hc
  · refine (if_pos h).trans ((if_neg ?_).trans ?_)
    · rw [hc]; exact BankId.other_ne _
    · rw [hc]
      cases hs : s.switch with
      | none => rw [Option.getD_none]
      | some x => exact (State.with_switch_self hs).symm

/-- Settles O46: the pair's state decides, and a pair that rests lets the header leave its state. -/
theorem feedbackLevelsAct : Obligations.FeedbackLevelsAct := by
  unfold Obligations.FeedbackLevelsAct
  intro s pair
  have hrest : ∀ {t : State}, t = s.setPair .resting pair → s.asserted (feedbackOf pair) = false → s.pair pair ≠ .running →
      (∀ x, s.pair pair ≠ .starting x) → s.levelEffects (feedbackOf pair) = t.windowEnded := fun ht hf hr hs => by
    rw [State.levelEffects_feedback, if_neg (by simp [hf]), State.feedbackDeasserted_rest hr hs, ht]
  have hframe : (s.setPair .resting pair).header = s.header ∧ (s.setPair .resting pair).clock = s.clock := by simp
  obtain ⟨hheader, hclock⟩ := hframe
  refine ⟨fun x h hp => ?_, fun h hp => ?_, fun w h hp hw => ?_, fun x w r cause h hp hh ho hst => ?_, fun hpump hblow hh hp => ?_,
    fun t ht h hr hs => ?_⟩
  · rw [State.levelEffects_feedback, if_pos h, State.feedbackAsserted, hp]
    cases pair <;> rfl
  · rw [State.levelEffects_feedback, if_pos h, State.feedbackAsserted]
    cases hs : s.pair pair with
    | starting x => exact absurd hs (hp x)
    | _ => rfl
  · rw [State.levelEffects_feedback, if_neg (by simp [h]), State.feedbackDeasserted, hp]
    exact if_pos (by simp [hw])
  · have hover : (s.setPair .resting pair).anyOverrun = false := by
      cases pair <;> simp_all [State.anyOverrun, State.setPair, Supervision.isOverrun]
    rw [hrest rfl h (by simp [hp]) (by simp [hp]), State.windowEnded_aborting (hheader.trans hh) hover, hst, hclock]
    rfl
  · have hinput : ∀ i, (s.setPair .resting pair).asserted i = s.asserted i := fun i => State.asserted_congr (by simp) i
    have hfb : s.asserted (feedbackOf pair) = false := by cases pair <;> assumption
    rw [hrest rfl hfb (by simp [hp]) (by simp [hp]), State.windowEnded_runon (hheader.trans hh), hinput, hinput,
      if_pos ⟨hpump, hblow⟩, hclock]
  · have hinput : ∀ i, t.asserted i = s.asserted i := fun i => by rw [ht]; exact State.asserted_congr (by simp) i
    have htheader : t.header = s.header := ht ▸ hheader
    have htclock : t.clock = s.clock := ht ▸ hclock
    rw [hrest ht h hr hs]
    refine ⟨fun w r cause hh ho => ?_, fun since taken hh => ?_, fun hh => ?_, fun ha hset hrun => ?_⟩
    · rw [State.windowEnded_aborting (htheader.trans hh) ho, htclock]
    · exact State.windowEnded_settling (htheader.trans hh)
    · rw [State.windowEnded_runon (htheader.trans hh), hinput, hinput, htclock]
    · exact State.windowEnded_other (by rwa [htheader]) (by rwa [htheader]) (by rwa [htheader])

/-! ### The basin -/

/-- Settles O47: the test of BASIN_DECLARE, and the accrual's two sums. -/
theorem theBasinAccount : Obligations.TheBasinAccount := by
  unfold Obligations.TheBasinAccount
  refine ⟨fun s p tag litres h => ?_, fun s a h ha => ?_⟩
  · have hframe : (s.goodFrame p).header = s.header ∧ (s.goodFrame p).plant = s.plant ∧ (s.goodFrame p).accrual = s.accrual := by
      simp
    obtain ⟨hheader, hplant, haccrual⟩ := hframe
    have hexec : exec (.basinDeclare p tag litres) s =
        .next (s.handle p 18 tag true fun t => t.declareBasin litres) := h.toSettled.exec (e := evBasinDeclare p tag litres) rfl
    have hdeclare : (s.goodFrame p).declareBasin litres = if s.plant.capacity < litres then .refuse .range
        else if s.header.wash.isNone then .accept ((s.goodFrame p).setVolume litres) .none else .refuse .wrongState := by
      rw [State.declareBasin, hheader, hplant, Header.isFree_eq]
    refine ⟨fun hle hw => ?_, fun hle hw => ?_, fun hlt => ?_⟩
    · rw [hexec, h.handle tag _ rfl (hdeclare.trans ((if_neg (Nat.not_lt.2 hle)).trans (if_pos (by simp [hw])))),
        State.setVolume, haccrual]
    · rw [hexec, h.handle_refused tag _ rfl (hdeclare.trans ((if_neg (Nat.not_lt.2 hle)).trans (if_neg (by simpa using hw))))]
    · rw [hexec, h.handle_refused tag _ rfl (hdeclare.trans (if_pos hlt))]
  · have hsum : (min (s.plant.capacity : Int) (max 0 ((s.volume : Int) + a.inflow - a.drain))).toNat =
        min s.plant.capacity (s.volume + a.inflow - a.drain) := by omega
    rw [h.exec (e := evBasinAccrual) rfl, evBasinAccrual, State.takeAccrual, ha, hsum]
    dsimp only
    cases a.charged <;> rfl

end Sys2Proof.Proofs.Inputs
end

section
/-! PROOFS. The policy lock (O48), writes of the standby bank (O49), interlocks and planned seconds (O50), and STORE (O54). -/

namespace Sys2Proof.Machine

/-! ### Lock-covered requests (R127) -/

section
variable {s : State} {p : PortNo} (h : Ready s p) {c : Instr} {kind tag : Nat} {act : State → Verdict}
  (hc : exec c s = .next (s.event fun t => t.request p kind tag true (State.lockCovered p act))) (hk : knownKind kind = true)
include h hc hk

theorem Ready.exec_covered_accepted (hl : s.holdsLock p = true) {t : State} {d : ReplyData}
    (ha : act (s.renewed p) = .accept t d) : exec c s = .next (t.answered p kind tag (.accepted d)) := by
  rw [h.toSettled.exec hc, h.covered tag act hk hl, ha]
  rfl

theorem Ready.exec_covered_refused (hl : s.holdsLock p = true) {code : RefusalCode}
    (ha : act (s.renewed p) = .refuse code) : exec c s = .next ((s.renewed p).answered p kind tag (.refused code)) := by
  rw [h.toSettled.exec hc, h.covered tag act hk hl, ha]
  rfl

theorem Ready.exec_covered_not (hl : s.holdsLock p = false) :
    exec c s = .next ((s.goodFrame p).answered p kind tag (.refused (if s.lock = none then .noLock else .locked))) := by
  rw [h.toSettled.exec hc, h.covered_not tag act hk hl]

end

/-- An ASSIGN of a filter number is a lock-covered request. -/
theorem evAssign_of_filter {p : PortNo} {tag n : Nat} {f : FilterNo} (hn : filterOf n = some f) (present owner letter : Nat) :
    evAssign p tag n present owner letter =
      fun s => s.request p 24 tag true (State.lockCovered p fun u => u.assign f present owner letter) := by
  funext s
  simp only [evAssign, hn]

/-! ### Modes (R92, R95) -/

/-- Within the step a mode drives its line ON in its interval. -/
theorem Mode.drive_on_iff (m : Mode) {mark duration e : Nat} (he : e < duration) :
    m.drive (decide (mark ≤ e)) = .on ↔ (m.onInterval mark duration).1 ≤ e ∧ e < (m.onInterval mark duration).2 := by
  cases m with
  | off => simp [Mode.drive, Mode.onInterval]
  | on => simp [Mode.drive, Mode.onInterval, he]
  | onAtMark => simp [Mode.drive, Mode.onInterval, he]
  | offAtMark => simp [Mode.drive, Mode.onInterval]
  | released => simp [Mode.drive, Mode.onInterval]

theorem Mode.onInterval_le (m : Mode) {mark duration : Nat} (hm : mark ≤ duration) :
    (m.onInterval mark duration).2 ≤ duration := by
  cases m <;> simp [Mode.onInterval, hm]

/-- An interval lies within another where each of its seconds does. -/
theorem within_iff {a b : Nat × Nat} : within a b = true ↔ ∀ e, a.1 ≤ e ∧ e < a.2 → b.1 ≤ e ∧ e < b.2 := by
  simp only [within, Bool.or_eq_true, Bool.and_eq_true, decide_eq_true_eq]
  refine ⟨fun h e he => by omega, fun h => ?_⟩
  by_cases hempty : a.2 ≤ a.1
  · exact .inl hempty
  · have hfirst := h a.1 (by omega)
    have hlast := h (a.2 - 1) (by omega)
    exact .inr (by omega)

theorem countP_range_interval (a b n : Nat) : (List.range n).countP (fun e => decide (a ≤ e ∧ e < b)) = min n b - a := by
  induction n with
  | zero => simp
  | succ n ih =>
    rw [List.range_succ, List.countP_append, ih, List.countP_singleton]
    split <;> simp_all <;> omega

end Sys2Proof.Machine

namespace Sys2Proof.Proofs.Policy

open Sys2Proof.Machine

/-! ### The lock -/

theorem holdsLock_iff (s : State) (p : PortNo) : s.holdsLock p = true ↔ ∃ l, s.lock = some l ∧ l.holder = p := by
  simp only [State.holdsLock, Option.any_eq_true, beq_iff_eq]

/-- Settles O48: the lock's two requests, and the seven requests that it covers. -/
theorem thePolicyLock : Obligations.ThePolicyLock := by
  unfold Obligations.ThePolicyLock
  intro s p tag h
  have hframe : (s.goodFrame p).lock = s.lock ∧ (s.goodFrame p).clock = s.clock := by simp
  obtain ⟨hlock, hclock⟩ := hframe
  have hrequest : exec (.policyLock p tag) s = .next (s.handle p 19 tag true fun t => t.takeLock p) :=
    h.toSettled.exec (e := evPolicyLock p tag) rfl
  have hrelease : exec (.policyUnlock p tag) s = .next (s.handle p 20 tag true fun t => t.unlock p) :=
    h.toSettled.exec (e := evPolicyUnlock p tag) rfl
  refine ⟨fun hl => ?_, fun hl => ?_, fun hl => ?_, fun hsome hl => ?_, fun hl => ⟨fun b i v => ?_, fun b l k st => ?_,
    fun b l k => ?_, fun n pr o l hn => ?_, fun k i v => ?_, fun b => ?_, ?_⟩⟩
  · have htake : (s.goodFrame p).takeLock p = .accept (s.renewed p) .none := by
      rw [State.takeLock, hlock, State.renewed, ← hclock]
      rcases hl with hnone | hl
      · rw [hnone]
      · obtain ⟨l, hs, hp⟩ := (holdsLock_iff s p).1 hl
        rw [hs]
        exact if_pos hp
    rw [hrequest, h.handle tag _ rfl htake]
  · rw [hrelease, h.handle tag _ rfl (by rw [State.unlock, hlock]; exact if_pos hl)]
  · rw [hrelease, h.handle_refused tag _ rfl (by rw [State.unlock, hlock]; exact if_neg (Bool.eq_false_iff.1 hl))]
  · obtain ⟨l, hs⟩ := Option.ne_none_iff_exists'.1 hsome
    have hother : l.holder ≠ p := fun hp => by simp [(holdsLock_iff s p).2 ⟨l, hs, hp⟩] at hl
    rw [hrequest, h.handle_refused tag _ rfl (by rw [State.takeLock, hlock, hs]; exact if_neg hother)]
  · exact h.exec_covered_not rfl rfl hl
  · exact h.exec_covered_not rfl rfl hl
  · exact h.exec_covered_not rfl rfl hl
  · obtain ⟨f, hf⟩ := Option.ne_none_iff_exists'.1 hn
    exact h.exec_covered_not (by rw [← evAssign_of_filter hf pr o l]; rfl) rfl hl
  · exact h.exec_covered_not rfl rfl hl
  · exact h.exec_covered_not rfl rfl hl
  · exact h.exec_covered_not rfl rfl hl

/-! ### Writes of the standby bank -/

/-- The bank tests of R128 that fail. -/
theorem standbyBank_refused {s : State} {bank : Nat} {code : RefusalCode}
    (h : (bankOf bank = none ∧ code = .range) ∨ (bankOf bank = some s.active ∧ code = .activeBank) ∨
      (bankOf bank = some s.active.other ∧ s.switch ≠ none ∧ code = .switchPending)) (act : BankId → Verdict) :
    s.standbyBank bank act = .refuse code := by
  rcases h with ⟨hb, rfl⟩ | ⟨hb, rfl⟩ | ⟨hb, hs, rfl⟩ <;> rw [State.standbyBank, hb]
  · exact if_pos rfl
  · exact (if_neg (BankId.other_ne _)).trans (if_pos (Option.isSome_iff_ne_none.2 hs))

theorem standbyBank_passed {s : State} {bank : Nat} (hb : bankOf bank = some s.active.other) (hs : s.switch = none)
    (act : BankId → Verdict) : s.standbyBank bank act = act s.active.other := by
  rw [State.standbyBank, hb]
  exact (if_neg (BankId.other_ne _)).trans (if_neg (by simp [hs]))

theorem renewed_bank (s : State) (p : PortNo) (b : BankId) : (s.renewed p).bank b = s.bank b := by
  cases b <;> simp [State.bank]

section
variable {s : State} {l : Letter} {letter index : Nat} {record : StepRecord} {b : BankId}

theorem writeStep_in_range {st : Step} (hl : letterOf letter = some l) (hst : stepOf record = some st) (hlo : 1 ≤ index)
    (hlen : index ≤ ((s.bank b).recipe l).length + 1) (hhi : index ≤ 8) :
    s.writeStep letter index record b = if st.interlocked then
      .accept (s.setBank ((s.bank b).setRecipe (putStep ((s.bank b).recipe l) index st) l) b) .none else .refuse .interlock := by
  simp only [State.writeStep, hl, hst]
  exact if_pos ⟨hlo, hlen, hhi⟩

theorem writeStep_out_of_range (h : letterOf letter = none ∨ stepOf record = none ∨ index = 0 ∨ 8 < index ∨
      (∃ l, letterOf letter = some l ∧ ((s.bank b).recipe l).length + 1 < index)) :
    s.writeStep letter index record b = .refuse .range := by
  unfold State.writeStep
  split
  · rfl
  · rename_i l hl
    dsimp only
    split
    · rename_i hrange
      have hlimit : index ≤ 8 := hrange.2.2
      rcases h with h | h | h | h | ⟨l', h, hlong⟩
      · rw [h] at hl; cases hl
      · rw [h]
      · omega
      · omega
      · cases hl.symm.trans h
        omega
    · rfl

end

/-- Settles O49: the bank tests first, then each write's own tests. -/
theorem writesOfTheStandbyBank : Obligations.WritesOfTheStandbyBank := by
  unfold Obligations.WritesOfTheStandbyBank
  intro s p tag bank item value letter index count record h hl
  have hactive : (s.renewed p).active = s.active ∧ (s.renewed p).switch = s.switch := by simp
  obtain ⟨hact, hsw⟩ := hactive
  refine ⟨fun code hcode => ?_, fun hb hs => ?_⟩
  · rw [← hact, ← hsw] at hcode
    exact ⟨h.exec_covered_refused rfl rfl hl (standbyBank_refused hcode _),
      h.exec_covered_refused rfl rfl hl (standbyBank_refused hcode _),
      h.exec_covered_refused rfl rfl hl (standbyBank_refused hcode _)⟩
  · have hpass : ∀ act, (s.renewed p).standbyBank bank act = act s.active.other := fun act => by
      rw [standbyBank_passed (by rw [hact]; exact hb) (hsw.trans hs), hact]
    have hbank := renewed_bank s p s.active.other
    refine ⟨fun i hi hlo hhi => ?_, fun l st hlet hst hlo hlen hhi => ?_, fun l hlet hc => ?_, fun hno => ?_, fun hno => ?_,
      fun hlet => ?_, fun l hlet hc => ?_⟩
    · refine h.exec_covered_accepted rfl rfl hl ((hpass _).trans ?_)
      simp only [State.writeItem, hi, hbank]
      exact if_pos (by simp [PolicyItem.accepts, hlo, hhi])
    · have hwrite := writeStep_in_range (s := s.renewed p) hlet hst hlo (by rwa [hbank]) hhi
      rw [hbank] at hwrite
      split
      · rename_i hin
        exact h.exec_covered_accepted rfl rfl hl ((hpass _).trans (hwrite.trans (if_pos hin)))
      · rename_i hin
        exact h.exec_covered_refused rfl rfl hl ((hpass _).trans (hwrite.trans (if_neg hin)))
    · refine h.exec_covered_accepted rfl rfl hl ((hpass _).trans ?_)
      simp only [State.truncateRecipe, hlet, hbank]
      exact if_pos hc
    · refine h.exec_covered_refused rfl rfl hl ((hpass _).trans ?_)
      unfold State.writeItem
      split
      · rename_i i hi
        refine if_neg ?_
        have := hno i hi
        simp only [PolicyItem.accepts, Bool.and_eq_true, decide_eq_true_eq]
        omega
      · rfl
    · exact h.exec_covered_refused rfl rfl hl ((hpass _).trans (writeStep_out_of_range (by simpa only [hbank] using hno)))
    · refine h.exec_covered_refused rfl rfl hl ((hpass _).trans ?_)
      simp only [State.truncateRecipe, hlet]
    · refine h.exec_covered_refused rfl rfl hl ((hpass _).trans ?_)
      simp only [State.truncateRecipe, hlet, hbank]
      exact if_neg (Nat.not_le.2 hc)

/-! ### Interlocks and planned seconds -/

/-- An interlock of two lines holds where the one is never ON without the other. -/
theorem within_onInterval_iff {m v : Mode} {mark duration : Nat} (hm : mark ≤ duration) :
    within (m.onInterval mark duration) (v.onInterval mark duration) = true ↔
      ∀ e, e < duration → m.drive (decide (mark ≤ e)) = .on → v.drive (decide (mark ≤ e)) = .on := by
  rw [within_iff]
  refine ⟨fun h e he hon => ?_, fun h e he => ?_⟩
  · exact (v.drive_on_iff he).2 (h e ((m.drive_on_iff he).1 hon))
  · have hlt : e < duration := Nat.lt_of_lt_of_le he.2 (m.onInterval_le hm)
    exact (v.drive_on_iff hlt).1 (h e hlt ((m.drive_on_iff hlt).2 he))

/-- Settles O50: a mode's interval is the seconds in which it drives its line ON. -/
theorem interlockedStepsAndPlannedSeconds : Obligations.InterlockedStepsAndPlannedSeconds := by
  unfold Obligations.InterlockedStepsAndPlannedSeconds
  intro st hm
  refine ⟨?_, ?_⟩
  · rw [Step.interlocked, Bool.and_eq_true, within_onInterval_iff hm, within_onInterval_iff hm]
    exact ⟨fun h e he => ⟨h.1 e he, h.2 e he⟩, fun h => ⟨fun e he => (h e he).1, fun e he => (h e he).2⟩⟩
  · have hcount : (List.range st.duration).countP (fun e => decide ((st.pattern e).pump = .on)) =
        (List.range st.duration).countP (fun e => decide ((st.pump.onInterval st.mark st.duration).1 ≤ e ∧
          e < (st.pump.onInterval st.mark st.duration).2)) := by
      refine List.countP_congr fun e he => ?_
      rw [decide_eq_true_iff, decide_eq_true_iff]
      exact st.pump.drive_on_iff (List.mem_range.1 he)
    rw [hcount, countP_range_interval, min_eq_right (st.pump.onInterval_le hm)]
    rfl

/-! ### The store -/

/-- Settles O54: one write at a time, and none ends before 0.5 s. -/
theorem storeAndItsCompletion : Obligations.StoreAndItsCompletion := by
  unfold Obligations.StoreAndItsCompletion
  refine ⟨fun s p tag h hl => ⟨fun hs => ?_, fun hs => ?_⟩, fun s w h hw => ⟨fun hage => ?_, fun hage => ?_,
    fun b hage => ?_⟩⟩
  · have hframe : (s.renewed p).storing = none ∧ (s.renewed p).image = s.image ∧ (s.renewed p).liveContent = s.liveContent := by
      simp [hs, State.liveContent]
    refine h.exec_covered_accepted rfl rfl hl ?_
    rw [State.beginStore, hframe.1, hframe.2.1, hframe.2.2]
  · obtain ⟨w, hw⟩ := Option.ne_none_iff_exists'.1 hs
    have hstoring : (s.renewed p).storing = some w := by simpa using hw
    exact h.exec_covered_refused rfl rfl hl (by rw [State.beginStore, hstoring])
  all_goals rw [h.exec (e := evStoreComplete _) rfl, evStoreComplete, hw]
  · exact congrArg Host.Outcome.next (if_pos hage)
  · exact congrArg Host.Outcome.next (if_pos hage)
  · exact congrArg Host.Outcome.next (if_neg (Nat.not_le.2 hage))

end Sys2Proof.Proofs.Policy
end

section
/-! PROOFS. ASSIGN (O51) and PLANT_WRITE (O52). -/

namespace Sys2Proof.Machine

/-! ### What the tests of a bank read (R124) -/

theorem State.breaksActive_congr {s t s' t' : State} (hf : s'.filters = s.filters) (hn : s'.normal = s.normal)
    (hs : s'.storm = s.storm) (hp : s'.plant = s.plant) (ha : s'.active = s.active) (tf : t'.filters = t.filters)
    (tn : t'.normal = t.normal) (ts : t'.storm = t.storm) (tp : t'.plant = t.plant) (ta : t'.active = t.active) :
    s'.breaksActive t' = s.breaksActive t := by
  simp only [State.breaksActive, ha, ta, State.validBank_congr hf hn hs hp, State.validBank_congr tf tn ts tp]

theorem State.renewed_filter (s : State) (p : PortNo) (f : FilterNo) : (s.renewed p).filter f = s.filter f :=
  State.filter_congr (by simp) f

theorem State.renewed_breaksActive_setFilter (s : State) (p : PortNo) (f : FilterNo) (x : Option Filter) :
    (s.renewed p).breaksActive ((s.renewed p).setFilter f x) = s.breaksActive (s.setFilter f x) :=
  State.breaksActive_congr (by simp) (by simp) (by simp) (by simp) (by simp) (by simp [State.setFilter]) (by simp) (by simp)
    (by simp) (by simp)

theorem State.latches_answered (s : State) (p i : PortNo) (kind tag : Nat) (a : Answer) :
    ((s.answered p kind tag a).port i).latches = (s.port i).latches := by
  by_cases h : i = p
  · subst h; rw [State.port_answered]
  · rw [State.port_answered_ne _ h]

/-! ### UNKNOWN filters of a port (spec/11 section 11.5) -/

/-- The filter is one of the UNKNOWN ones that the port owns. -/
def unknownOf (p : PortNo) (x : Option Filter) : Bool := x.any fun r => r.service.isUnknown && r.owner == p

/-- A filter that becomes one of the port's UNKNOWN ones is one more. -/
theorem State.unknownCount_setFilter (s : State) (f : FilterNo) {x : Option Filter} {p : PortNo} (hx : unknownOf p x = true)
    (hold : unknownOf p (s.filter f) = false) : (s.setFilter f x).unknownCount p = s.unknownCount p + 1 := by
  have hlt : f.val < s.filters.cells.length := by rw [s.filters.size]; exact f.isLt
  have hcell : unknownOf p s.filters.cells[f.val] = false := hold
  show (s.filters.cells.set f.val x).countP (unknownOf p) = s.filters.cells.countP (unknownOf p) + 1
  rw [List.countP_set hlt, hcell, hx]
  simp

/-! ### ASSIGN (R131, R2) -/

section
variable {s : State} {f : FilterNo} {present owner letter : Nat} {entry : Option Assignment} {old : Option Filter}
  (he : entryOf present owner letter = some entry) (hr : s.filter f = old)

include he hr

theorem State.assign_accepted (ha : ∀ r, old = some r → r.service.isAssignable = true)
    (hb : s.breaksActive (s.setFilter f (assignedRecord old entry)) = false) :
    s.assign f present owner letter = .accept (s.applyAssign f entry) .none := by
  rw [State.assign, he, hr]
  exact (if_pos ((Option.all_eq_true _ _).2 ha)).trans (if_neg (by simp [hb]))

theorem State.assign_invalid (ha : ∀ r, old = some r → r.service.isAssignable = true)
    (hb : s.breaksActive (s.setFilter f (assignedRecord old entry)) = true) :
    s.assign f present owner letter = .refuse .invalid := by
  rw [State.assign, he, hr]
  exact (if_pos ((Option.all_eq_true _ _).2 ha)).trans (if_pos hb)

theorem State.assign_wrongState {r : Filter} (hold : old = some r) (ha : r.service.isAssignable = false) :
    s.assign f present owner letter = .refuse .wrongState := by
  rw [State.assign, he, hr]
  exact if_neg (by simp [hold, ha])

omit he

theorem State.applyAssign_silent (h : announces old (assignedRecord old entry) = none) :
    s.applyAssign f entry = s.setFilter f (assignedRecord old entry) := by
  simp only [State.applyAssign, hr, h]

theorem State.applyAssign_announced {o : PortNo} (h : announces old (assignedRecord old entry) = some o) :
    s.applyAssign f entry = (s.setFilter f (assignedRecord old entry)).postTo o
      (.reconcile ((s.setFilter f (assignedRecord old entry)).unknownCount o)) := by
  simp only [State.applyAssign, hr, h]

end

theorem entryOf_present {present owner letter : Nat} {o : PortNo} {l : Letter} (hp : present ≠ 0) (ho : portOf owner = some o)
    (hl : letterOf letter = some l) : entryOf present owner letter = some (some ⟨o, l⟩) := by
  simp only [entryOf, ho, hl]
  exact if_pos (by simpa [flagOf] using hp)

theorem entryOf_absent (owner letter : Nat) : entryOf 0 owner letter = some none := rfl

theorem entryOf_out_of_range {present owner letter : Nat} (hp : present ≠ 0) (h : portOf owner = none ∨ letterOf letter = none) :
    entryOf present owner letter = none := by
  unfold entryOf
  rw [if_pos (by simpa [flagOf] using hp)]
  split
  · rename_i o l ho hl
    rcases h with h | h
    · rw [h] at ho; cases ho
    · rw [h] at hl; cases hl
  · rfl

end Sys2Proof.Machine

namespace Sys2Proof.Proofs.Assignments

open Sys2Proof.Machine

/-- Settles O51: the entry asked for, the tests of R131, and RECONCILE where the owner is told. -/
theorem assignChangesTheTable : Obligations.AssignChangesTheTable := by
  unfold Obligations.AssignChangesTheTable
  refine ⟨fun s p tag n present owner letter h hn => ?_, fun s p o tag n present owner letter f l h hlock hf ho hl => ?_⟩
  · rw [h.toSettled.exec (e := evAssign p tag n present owner letter) rfl, evAssign, h.request tag _ rfl]
    simp only [hn]
  · have hfilter := s.renewed_filter p f
    have haccepted : ∀ {present owner letter : Nat} {t : State},
        (s.renewed p).assign f present owner letter = .accept t .none →
        exec (.assign p tag n present owner letter) s = .next (t.answered p 24 tag (.accepted .none)) := fun ha =>
      h.exec_covered_accepted (by rw [← evAssign_of_filter hf]; rfl) rfl hlock ha
    have hrefused : ∀ {present owner letter : Nat} {code : RefusalCode},
        (s.renewed p).assign f present owner letter = .refuse code →
        exec (.assign p tag n present owner letter) s = .next ((s.renewed p).answered p 24 tag (.refused code)) := fun ha =>
      h.exec_covered_refused (by rw [← evAssign_of_filter hf]; rfl) rfl hlock ha
    have hbreaks : ∀ x, (s.renewed p).breaksActive ((s.renewed p).setFilter f x) = s.breaksActive (s.setFilter f x) :=
      s.renewed_breaksActive_setFilter p f
    have hunknown : unknownOf o (s.filter f) = false → ∀ {x}, unknownOf o x = true →
        ((s.renewed p).setFilter f x).unknownCount o = s.unknownCount o + 1 := fun hold x hx => by
      rw [State.unknownCount_setFilter _ _ hx (by rwa [hfilter]), PortStates.unknownCount_congr (s := s) (by simp)]
    have hsome : ∀ {r}, s.filter f = some r → (s.renewed p).filter f = some r := fun hr => hfilter.trans hr
    have hassignable : ∀ {r : Filter}, r.service.isAssignable = true →
        ∀ r', some r = some r' → r'.service.isAssignable = true := fun ha r' hr' => Option.some.inj hr' ▸ ha
    have hreconcile : ∀ {u : State} {k : Nat},
        (((u.postTo o (.reconcile k)).answered p 24 tag (.accepted .none)).port o).latches.reconcile = some k := fun {u k} => by
      rw [State.latches_answered, State.port_postTo, if_pos rfl]
      rfl
    refine ⟨fun hp hr hb => ?_, fun r hp hr hv hb => ?_, fun r hp hr hv hne hb => ?_, fun ha hb owner' letter' => ?_,
      fun r hr hv => ?_, fun r hp hr ha hb => ?_, fun hp hr hb => ?_, fun ha hb owner' letter' => ?_,
      fun owner' letter' hp hrange => ?_⟩
    · have hnone := hfilter.trans hr
      refine ⟨_, haccepted (State.assign_accepted (entryOf_present hp ho hl) hnone (fun r h => by cases h)
        ((hbreaks _).trans hb)), ?_⟩
      rw [State.applyAssign_announced (o := o) hnone rfl, hunknown (by rw [hr]; rfl)
        (by simp [assignedRecord, unknownOf, Filter.fresh, Service.isUnknown])]
      refine ⟨State.filter_setFilter _ _ _, hreconcile, fun g hg => ?_, by simp, by simp⟩
      exact (State.filter_setFilter_ne _ _ hg).trans (s.renewed_filter p g)
    · have hacc := State.assign_accepted (entryOf_present hp ho hl) (hsome hr)
        (hassignable (by rcases hv with ⟨start, hv⟩ | ⟨x, hv⟩ | ⟨hv, -⟩ <;> rw [hv] <;> rfl)) ((hbreaks _).trans hb)
      rw [haccepted hacc, State.applyAssign_silent (hsome hr)]
      · rfl
      · rcases hv with ⟨start, hv⟩ | ⟨x, hv⟩ | ⟨hv, hown⟩ <;> simp [announces, assignedRecord, Service.isUnknown, *]
    · refine ⟨_, haccepted (State.assign_accepted (entryOf_present hp ho hl) (hsome hr) (hassignable (by rw [hv]; rfl))
        ((hbreaks _).trans hb)), ?_⟩
      rw [State.applyAssign_announced (o := o) (hsome hr) (by simp [announces, assignedRecord, hv, Service.isUnknown, hne]),
        hunknown (by simp [hr, unknownOf, hne]) (by simp [assignedRecord, unknownOf, hv, Service.isUnknown])]
      exact ⟨State.filter_setFilter _ _ _, hreconcile⟩
    · have hall : ∀ r, (s.renewed p).filter f = some r → r.service.isAssignable = true := fun r hr =>
        ha r (hfilter.symm.trans hr)
      rw [haccepted (State.assign_accepted (entryOf_absent owner' letter') rfl hall ((hbreaks _).trans hb)),
        State.applyAssign_silent rfl (by cases (s.renewed p).filter f <;> rfl)]
      rfl
    · obtain ⟨entry, he⟩ : ∃ entry, entryOf present owner letter = some entry := by
        by_cases hp : present = 0
        · exact ⟨none, hp ▸ entryOf_absent owner letter⟩
        · exact ⟨_, entryOf_present hp ho hl⟩
      refine hrefused (State.assign_wrongState he (hsome hr) rfl ?_)
      rcases hv with ⟨d, start, hv | hv | hv⟩ | ⟨start, hv⟩ <;> rw [hv] <;> rfl
    · exact hrefused (State.assign_invalid (entryOf_present hp ho hl) (hsome hr) (hassignable ha) ((hbreaks _).trans hb))
    · exact hrefused (State.assign_invalid (entryOf_present hp ho hl) (hfilter.trans hr) (fun r h => by cases h)
        ((hbreaks _).trans hb))
    · have hall : ∀ r, (s.renewed p).filter f = some r → r.service.isAssignable = true := fun r hr =>
        ha r (hfilter.symm.trans hr)
      exact hrefused (State.assign_invalid (entryOf_absent owner' letter') rfl hall ((hbreaks _).trans hb))
    · exact hrefused (by rw [State.assign, entryOf_out_of_range hp hrange])

end Sys2Proof.Proofs.Assignments

namespace Sys2Proof.Machine

/-! ### New quiet and lost times (R158) -/

/-- The state of a port that meets the quiet and lost times. -/
def State.timedState (s : State) (i : PortNo) : PortState :=
  match (s.port i).state with
  | .attached =>
    if s.plant.lostTime ≤ s.silence i then .lost else if s.plant.quietTime ≤ s.silence i then .quiet else .attached
  | .quiet => if s.plant.lostTime ≤ s.silence i then .lost else .quiet
  | .detached => .detached
  | .lost => .lost
  | .blocked => .blocked

theorem State.timedState_spec (s : State) (i : PortNo) :
    ((s.port i).state.isAttached = true → s.plant.lostTime ≤ s.silence i → s.timedState i = .lost) ∧
      ((s.port i).state = .attached → s.plant.quietTime ≤ s.silence i → s.silence i < s.plant.lostTime →
        s.timedState i = .quiet) ∧
      (s.plant.quietTime ≤ s.plant.lostTime → s.silence i < s.plant.quietTime → s.timedState i = (s.port i).state) := by
  refine ⟨fun ha hl => ?_, fun ha hq hl => ?_, fun hle hq => ?_⟩
  · rcases PortState.isAttached_cases ha with e | e <;> simp [State.timedState, e, hl]
  · simp [State.timedState, ha, hq, Nat.not_le.2 hl]
  · have hl : ¬ s.plant.lostTime ≤ s.silence i := by omega
    cases e : (s.port i).state <;> simp [State.timedState, e, hl, Nat.not_le.2 hq]

/-- What a port's silence is measured of, and the state in which it is met. -/
def Port.heard (q : Port) : PortState × Nat := (q.state, q.lastGood)

theorem State.timedState_congr {s t : State} {i : PortNo} (h : (t.port i).heard = (s.port i).heard) (hc : t.clock = s.clock)
    (hp : t.plant = s.plant) : t.timedState i = s.timedState i := by
  obtain ⟨hst, hg⟩ := Prod.mk.inj h
  unfold State.timedState State.silence
  rw [hst, hg, hc, hp]

theorem State.applyTimes_cases (s : State) (j : PortNo) :
    (s.applyTimes j = s ∧ s.timedState j = (s.port j).state) ∨
      (s.applyTimes j = s.losePort j .lost ∧ s.timedState j = .lost ∧ s.plant.lostTime ≤ s.silence j) ∨
      (s.applyTimes j = s.quietPort j ∧ s.timedState j = .quiet) := by
  unfold State.applyTimes State.timedState
  cases h : (s.port j).state <;> simp <;> (repeat' split) <;> simp_all

theorem State.heard_quietPort_ne (s : State) {i j : PortNo} (h : i ≠ j) : ((s.quietPort j).port i).heard = (s.port i).heard := by
  rw [State.quietPort, State.port_postPeers, s.port_setPortState_ne _ h]
  split <;> rfl

theorem State.heard_losePort_ne (s : State) {i j : PortNo} (st : PortState) (h : i ≠ j) :
    ((s.losePort j st).port i).heard = (s.port i).heard := by
  obtain ⟨l, hl⟩ := s.port_leavePort_ne st h
  rw [State.losePort, State.port_postPeers, hl]
  split <;> rfl

/-- One port's times leave the other ports' states. -/
theorem State.heard_applyTimes_ne (s : State) {i j : PortNo} (h : i ≠ j) : ((s.applyTimes j).port i).heard = (s.port i).heard := by
  rcases s.applyTimes_cases j with ⟨e, -⟩ | ⟨e, -⟩ | ⟨e, -⟩ <;> rw [e]
  · exact s.heard_losePort_ne _ h
  · exact s.heard_quietPort_ne h

theorem State.state_applyTimes (s : State) (j : PortNo) : ((s.applyTimes j).port j).state = s.timedState j := by
  rcases s.applyTimes_cases j with ⟨e, ht⟩ | ⟨e, ht, -⟩ | ⟨e, ht⟩ <;> rw [e, ht]
  · obtain ⟨l, hl⟩ := s.port_losePort j .lost
    rw [hl]
  · rw [State.quietPort, State.port_postPeers, if_neg (by simp), State.port_setPortState]

theorem State.heard_foldl_applyTimes {i : PortNo} {l : List PortNo} (h : i ∉ l) (s : State) :
    ((l.foldl State.applyTimes s).port i).heard = (s.port i).heard := by
  induction l generalizing s with
  | nil => rfl
  | cons j l ih =>
    simp only [List.mem_cons, not_or] at h
    obtain ⟨hne, hl⟩ := h
    rw [List.foldl_cons, ih hl, s.heard_applyTimes_ne hne]

/-- Each port meets the times once. -/
theorem State.state_foldl_applyTimes {i : PortNo} {l : List PortNo} (hl : l.Nodup) (h : i ∈ l) (s : State) :
    ((l.foldl State.applyTimes s).port i).state = s.timedState i := by
  induction l generalizing s with
  | nil => cases h
  | cons j l ih =>
    obtain ⟨hj, hnd⟩ := List.nodup_cons.1 hl
    rw [List.foldl_cons]
    by_cases hij : i = j
    · subst hij
      exact (congrArg Prod.fst (State.heard_foldl_applyTimes hj (s.applyTimes i))).trans (s.state_applyTimes i)
    · have hmem : i ∈ l := (List.mem_cons.1 h).resolve_left hij
      rw [ih hnd hmem, State.timedState_congr (s.heard_applyTimes_ne hij) (by simp) (by simp)]

theorem State.state_applyTimesAll (s : State) (i : PortNo) : (s.applyTimesAll.port i).state = s.timedState i :=
  State.state_foldl_applyTimes (by decide) (by fin_cases i <;> decide) s

theorem State.lastGood_applyTimes (s : State) (i j : PortNo) : ((s.applyTimes j).port i).lastGood = (s.port i).lastGood := by
  by_cases h : i = j
  · subst h
    rcases s.applyTimes_cases i with ⟨e, -⟩ | ⟨e, -⟩ | ⟨e, -⟩ <;> rw [e]
    · obtain ⟨l, hl⟩ := s.port_losePort i .lost
      rw [hl]
    · rw [State.quietPort, State.port_postPeers, if_neg (by simp), State.port_setPortState]
  · exact congrArg Prod.snd (s.heard_applyTimes_ne h)

/-- A port that is lost releases the lock that it holds, and no other's (R127). -/
theorem State.lock_losePort {s : State} {j : PortNo} {l : Lock} (h : s.lock = some l) (hj : l.holder ≠ j) (st : PortState) :
    (s.losePort j st).lock = some l := by
  have hset : (s.setPortState j st).lock = some l := h
  have hlose : (s.losePort j st).lock = (s.leavePort j st).lock := by simp
  rw [hlose]
  cases ha : (s.port j).state.isAttached with
  | false => rw [State.leavePort_not_attached ha, hset]
  | true =>
    have hdrop : (s.setPortState j st).dropLock j = s.setPortState j st := if_neg (by rw [hset]; simp [hj])
    rw [State.leavePort_attached ha, hdrop]
    simpa using h

theorem State.lock_applyTimes {s : State} {j : PortNo} {l : Lock} (h : s.lock = some l)
    (hj : s.silence l.holder < s.plant.lostTime) : (s.applyTimes j).lock = some l := by
  rcases s.applyTimes_cases j with ⟨e, -⟩ | ⟨e, -, hlost⟩ | ⟨e, -⟩ <;> rw [e]
  · exact h
  · refine State.lock_losePort h ?_ _
    rintro rfl
    omega
  · simpa using h

/-- The holder of the lock, heard within the lost time, keeps it while the ports meet the times. -/
theorem State.lock_applyTimesAll {s : State} {l : Lock} (h : s.lock = some l) (hj : s.silence l.holder < s.plant.lostTime) :
    s.applyTimesAll.lock = some l := by
  unfold State.applyTimesAll
  generalize allPorts = ports
  induction ports generalizing s with
  | nil => exact h
  | cons j ports ih =>
    refine ih (State.lock_applyTimes h hj) ?_
    have hclock : (s.applyTimes j).clock = s.clock ∧ (s.applyTimes j).plant = s.plant := by simp
    rw [State.silence, hclock.1, hclock.2, s.lastGood_applyTimes]
    exact hj

end Sys2Proof.Machine

namespace Sys2Proof.Proofs.PlantWrites

open Sys2Proof.Machine

/-- The state in which a setting has been written, at a port whose request has renewed the lock. -/
def written (s : State) (p : PortNo) (value : Nat) (x : Setting) : State :=
  { s.renewed p with plant := s.plant.setValue value x }

theorem written_rest (s : State) (p : PortNo) (value : Nat) (x : Setting) :
    (written s p value x).volume = s.volume ∧ (written s p value x).switch = s.switch ∧
      (written s p value x).active = s.active ∧ (written s p value x).inputs = s.inputs ∧
      (written s p value x).clock = s.clock ∧ (written s p value x).lock = some ⟨p, s.clock⟩ ∧
      (written s p value x).plant = s.plant.setValue value x := by
  simp [written]

theorem port_written (s : State) (p i : PortNo) (value : Nat) (x : Setting) :
    (written s p value x).port i = (s.goodFrame p).port i := rfl

/-- The tests of R132 at the renewed state. -/
theorem writePlant_renewed {s : State} (p : PortNo) {k input : Nat} {x : Setting} (hx : settingOf k input = some x) (value : Nat) :
    (s.renewed p).writePlant k input value = if !s.plant.accepts value x then .refuse .range
      else if s.breaksActive { s with plant := s.plant.setValue value x } then .refuse .invalid
      else .accept ((written s p value x).applySetting s.plant.stormEnable x) .none := by
  have hplant : (s.renewed p).plant = s.plant := by simp
  have hbreaks : (s.renewed p).breaksActive (written s p value x) =
      s.breaksActive { s with plant := s.plant.setValue value x } :=
    State.breaksActive_congr (by simp) (by simp) (by simp) (by simp) (by simp) (by simp [written]) (by simp [written])
      (by simp [written]) (by simp [written]) (by simp [written])
  rw [← hbreaks]
  simp only [State.writePlant, hx, hplant]
  rfl

theorem any_origin_eq (x : Option PendingSwitch) :
    (x.any fun y => y.origin == .line) = decide (x.map PendingSwitch.origin = some Origin.line) := by
  cases x <;> simp [beq_eq_decide]

/-- The STORM line acts on the bank that it calls for (R134). -/
theorem stormActs_eq {s : State} {called active : BankId} {x : Option PendingSwitch} (ha : s.active = active)
    (hc : (if s.asserted .storm = true then BankId.storm else .normal) = called) (hx : s.switch = x) :
    s.stormActs = { s with switch := if called = active then none else some (x.getD ⟨active.other, .line⟩) } := by
  subst ha hx
  unfold State.stormActs
  dsimp only
  rw [hc]
  by_cases he : called = s.active
  · simp only [if_pos he]
  · simp only [if_neg he]
    cases hs : s.switch with
    | none => rw [BankId.eq_other he]; rfl
    | some y => exact (State.with_switch_self hs).symm

/-- The silence of the port whose request is taken. -/
theorem silence_written (s : State) (p : PortNo) (value : Nat) (x : Setting) : (written s p value x).silence p = 0 := by
  have hclock : (written s p value x).clock = s.clock := (written_rest s p value x).2.2.2.2.1
  rw [State.silence, hclock, port_written, s.port_goodFrame p]
  exact Nat.sub_self _

/-- The state and the last good frame of another port. -/
theorem heard_written_ne (s : State) {p i : PortNo} (h : i ≠ p) (value : Nat) (x : Setting) :
    ((written s p value x).port i).heard = (s.port i).heard := by
  rw [port_written, s.port_goodFrame_ne h]
  split <;> rfl

theorem lostTime_pos_of_accepts {s : State} {value : Nat} {x : Setting} (hx : x = .quietTime ∨ x = .lostTime)
    (h : s.plant.accepts value x = true) : 0 < (s.plant.setValue value x).lostTime := by
  rcases hx with rfl | rfl <;> simp only [Plant.accepts, Bool.and_eq_true, decide_eq_true_eq] at h
  · exact Nat.lt_of_le_of_lt (Nat.zero_le _) h.2
  · exact Nat.lt_of_lt_of_le (by decide) h.1.1

theorem quietTime_le_lostTime {s : State} {value : Nat} {x : Setting} (hx : x = .quietTime ∨ x = .lostTime)
    (h : s.plant.accepts value x = true) : (s.plant.setValue value x).quietTime ≤ (s.plant.setValue value x).lostTime := by
  rcases hx with rfl | rfl <;> simp only [Plant.accepts, Bool.and_eq_true, decide_eq_true_eq] at h <;> exact h.2.le

/-- Settles O52: the tests of R132, then what each setting's block makes of it. -/
theorem plantWriteAppliesTheSetting : Obligations.PlantWriteAppliesTheSetting := by
  unfold Obligations.PlantWriteAppliesTheSetting
  refine ⟨fun s p tag k input value h hl hx => ?_, fun s p tag k input value x h hl hx => ?_⟩
  · exact h.exec_covered_refused rfl rfl hl (by rw [State.writePlant, hx])
  · have hwrite := writePlant_renewed (s := s) p hx value
    obtain ⟨hvolume, hswitch, hactive, hinputs, hclock, hlock, hplant⟩ := written_rest s p value x
    refine ⟨fun ha => ?_, fun ha hb => ?_, fun ha hb => ?_⟩
    · exact h.exec_covered_refused rfl rfl hl (hwrite.trans (if_pos (by simp [ha])))
    · exact h.exec_covered_refused rfl rfl hl (hwrite.trans ((if_neg (by simp [ha])).trans (if_pos hb)))
    · have hexec : exec (.plantWrite p tag k input value) s =
          .next (((written s p value x).applySetting s.plant.stormEnable x).answered p 25 tag (.accepted .none)) :=
        h.exec_covered_accepted rfl rfl hl (hwrite.trans ((if_neg (by simp [ha])).trans (if_neg (by simp [hb]))))
      rw [hexec]
      refine ⟨fun e => ?_, fun e => ?_, fun i e => ?_, fun e hv => ?_, fun e hv => ?_, fun e => ?_⟩
      · subst e
        rw [State.applySetting, State.cutVolume, hvolume, hplant]
        rfl
      · subst e
        rfl
      · rcases e with rfl | rfl <;> rfl
      · subst e hv
        have hoff : (written s p 0 .stormEnable).plant.stormEnable = false := by rw [hplant]; rfl
        rw [State.applySetting, hoff, if_neg Bool.false_ne_true, State.cancelLineSwitch, hswitch, any_origin_eq]
        simp only [decide_eq_true_eq]
        split
        · rfl
        · rw [← hswitch]
          rfl
      · subst e hv
        have hon : (written s p 1 .stormEnable).plant.stormEnable = true := by rw [hplant]; rfl
        have hasserted : (written s p 1 .stormEnable).asserted .storm = s.asserted .storm := State.asserted_congr hinputs _
        have hcalled := congrArg (fun b : Bool => if b = true then BankId.storm else .normal) hasserted
        rw [State.applySetting, hon, if_pos rfl, stormActs_eq hactive hcalled hswitch]
        split
        · exact congrArg Host.Outcome.next (congrArg (State.answered · p 25 tag _) (State.with_switch_self hswitch).symm)
        · rfl
      · have happly : (written s p value x).applySetting s.plant.stormEnable x = (written s p value x).applyTimesAll := by
          rcases e with rfl | rfl <;> rfl
        have htimes : (written s p value x).applyTimesAll.plant = (written s p value x).plant := by simp
        have hkeep := State.lock_applyTimesAll hlock (by
          rw [silence_written, hplant]
          exact lostTime_pos_of_accepts e ha)
        rw [happly]
        refine ⟨_, rfl, htimes.trans hplant, hkeep, fun i hi => ?_⟩
        have hstate : (((written s p value x).applyTimesAll.answered p 25 tag (.accepted .none)).port i).state =
            (written s p value x).timedState i := by
          rw [State.port_answered_ne _ hi, State.state_applyTimesAll]
        have hsilence : (written s p value x).silence i = s.clock - (s.port i).lastGood := by
          rw [State.silence, hclock]
          exact congrArg _ (congrArg Prod.snd (heard_written_ne s hi value x))
        have hport : ((written s p value x).port i).state = (s.port i).state := congrArg Prod.fst (heard_written_ne s hi value x)
        have hanswered : ((written s p value x).applyTimesAll.answered p 25 tag (.accepted .none)).plant =
            (written s p value x).plant := htimes
        obtain ⟨hlost, hquiet, hstay⟩ := (written s p value x).timedState_spec i
        rw [hsilence, hport] at hlost hquiet hstay
        rw [hstate, hanswered]
        exact ⟨hlost, hquiet, hstay (hplant ▸ quietTime_le_lostTime e ha)⟩

end Sys2Proof.Proofs.PlantWrites
end

section
/-! PROOFS. The posture switch (O53): the expiries of each filter in turn (R21), then the other steps of R136. -/

namespace Sys2Proof.Machine

/-! ### The expiries of one filter (R10, R16, R21) -/

/-- The two expiries of one filter under the active bank. -/
def State.expireFilter (s : State) (f : FilterNo) : State := (s.expireRunTime f).expireRipening f

theorem State.expireFilters_eq (s : State) : s.expireFilters = allFilters.foldl State.expireFilter s := rfl

/-- What the expiries of filters leave. -/
structure State.ExpiryFrame (s t : State) : Prop where
  clock  : t.clock = s.clock
  normal : t.normal = s.normal
  storm  : t.storm = s.storm
  active : t.active = s.active
  hold   : t.hold = s.hold
  ports  : s.LatchesOnly t
  queue  : ∀ f, f ∈ s.queue → f ∈ t.queue

theorem State.ExpiryFrame.refl (s : State) : s.ExpiryFrame s :=
  ⟨rfl, rfl, rfl, rfl, rfl, s.latchesOnly_refl, fun _ h => h⟩

theorem State.ExpiryFrame.trans {s t u : State} (h : s.ExpiryFrame t) (h' : t.ExpiryFrame u) : s.ExpiryFrame u :=
  ⟨h'.clock.trans h.clock, h'.normal.trans h.normal, h'.storm.trans h.storm, h'.active.trans h.active, h'.hold.trans h.hold,
    h.ports.trans h'.ports, fun f hf => h'.queue f (h.queue f hf)⟩

theorem State.ExpiryFrame.activeBank {s t : State} (h : s.ExpiryFrame t) : t.activeBank = s.activeBank :=
  State.activeBank_congr h.normal h.storm h.active

theorem State.ExpiryFrame.runTimeOver {s t : State} (h : s.ExpiryFrame t) (start : Int) :
    t.runTimeOver start = s.runTimeOver start := State.runTimeOver_congr h.activeBank h.clock start

theorem State.mem_queue_addReasons {s : State} {f : FilterNo} (h : f ∈ s.queue) (g : FilterNo) (new : Reasons) :
    f ∈ (s.addReasons g new).queue := by
  refine s.addReasons_elim (P := fun t => f ∈ t.queue) g new h (fun _ _ _ _ => ?_) (fun _ _ _ _ => ?_) (fun _ _ _ _ => ?_)
  · simp [h]
  · simp only [State.mem_enqueue, State.setService_frame, State.mem_dequeue]
    by_cases hfg : f = g
    · exact .inl hfg
    · exact .inr ⟨h, hfg⟩
  · simp [h]

theorem State.latchesOnly_postOwner (s : State) (f : FilterNo) (n : Notice) : s.LatchesOnly (s.postOwner f n) := by
  unfold State.postOwner
  split
  · exact s.latchesOnly_postTo _ _
  · exact s.latchesOnly_refl

theorem State.expiryFrame_expireRunTime (s : State) (f : FilterNo) : s.ExpiryFrame (s.expireRunTime f) where
  clock := by simp
  normal := by simp
  storm := by simp
  active := by simp
  hold := by simp
  ports := State.LatchesOnly.of_ports (by simp)
  queue := fun g hg => by
    unfold State.expireRunTime
    split
    · exact State.mem_queue_addReasons hg _ _
    · exact hg

theorem State.expiryFrame_expireRipening (s : State) (f : FilterNo) : s.ExpiryFrame (s.expireRipening f) where
  clock := by simp
  normal := by simp
  storm := by simp
  active := by simp
  hold := by simp
  ports := by
    unfold State.expireRipening
    split
    · exact (State.LatchesOnly.of_ports (by simp)).trans (State.latchesOnly_postOwner _ _ _)
    · exact s.latchesOnly_refl
  queue := fun g hg => by simpa using hg

theorem State.expiryFrame_expireFilter (s : State) (f : FilterNo) : s.ExpiryFrame (s.expireFilter f) :=
  (s.expiryFrame_expireRunTime f).trans (State.expiryFrame_expireRipening _ f)

theorem State.expiryFrame_foldl (l : List FilterNo) (s : State) : s.ExpiryFrame (l.foldl State.expireFilter s) := by
  induction l generalizing s with
  | nil => exact .refl s
  | cons f l ih => exact (s.expiryFrame_expireFilter f).trans (ih _)

/-! ### Other filters stand -/

theorem State.filter_expireRipening_ne (s : State) {f g : FilterNo} (h : g ≠ f) : (s.expireRipening f).filter g = s.filter g := by
  unfold State.expireRipening
  split
  · have hpost : ((s.setService f (.heldOut .ripenTimeout)).postOwner f (.filterHeld f)).filters =
        (s.setService f (.heldOut .ripenTimeout)).filters := by simp
    rw [State.filter_congr hpost, State.filter_setService_ne _ _ h]
  · rfl

theorem State.filter_expireFilter_ne (s : State) {f g : FilterNo} (h : g ≠ f) : (s.expireFilter f).filter g = s.filter g := by
  rw [State.expireFilter, State.filter_expireRipening_ne _ h, State.filter_expireRunTime_ne _ h]

theorem State.filter_foldl_expireFilter {g : FilterNo} {l : List FilterNo} (h : g ∉ l) (s : State) :
    (l.foldl State.expireFilter s).filter g = s.filter g := by
  induction l generalizing s with
  | nil => rfl
  | cons f l ih =>
    simp only [List.mem_cons, not_or] at h
    rw [List.foldl_cons, ih h.2, s.filter_expireFilter_ne h.1]

/-! ### What becomes of the filter -/

theorem State.service_setService {s : State} {f : FilterNo} {v : Service} {r : Filter}
    (h : (s.setService f v).filter f = some r) : r.service = v := by
  rw [State.setService, State.mapFilter, State.filter_setFilter] at h
  obtain ⟨x, -, rfl⟩ := Option.map_eq_some_iff.1 h
  rfl

/-- A filter that is not ripening has no ripening expiry, before its run-time expiry and after it. -/
theorem State.expireFilter_of_not_ripening {s : State} {f : FilterNo}
    (h : ∀ r start, s.filter f = some r → r.service ≠ .ripening start) : s.expireFilter f = s.expireRunTime f := by
  have hstill : ∀ r start, (s.expireRunTime f).filter f = some r → r.service ≠ .ripening start := by
    unfold State.expireRunTime
    split
    · refine s.addReasons_elim (P := fun t => ∀ r start, t.filter f = some r → r.service ≠ .ripening start) f _ h
        (fun d st _ _ r start hr => ?_) (fun d st _ _ r start hr => ?_) (fun d st _ _ r start hr => ?_)
      · rw [State.enqueue_filter] at hr
        simp [State.service_setService hr]
      · rw [State.enqueue_filter] at hr
        simp [State.service_setService hr]
      · simp [State.service_setService hr]
    · exact h
  unfold State.expireFilter
  cases hr : (s.expireRunTime f).filter f with
  | none => simp [State.expireRipening, State.ripeningDue, hr]
  | some r => exact State.expireRipening_other hr fun start => hstill r start hr

theorem State.expireFilter_inService {s : State} {f : FilterNo} {r : Filter} {start : Int} (hr : s.filter f = some r)
    (hv : r.service = .inService start) :
    (s.expireFilter f).filter f = some (if s.runTimeOver start = true then
        { r with service := .due ⟨⟨false, false, true, none⟩, .routine, s.clock⟩ start } else r) ∧
      (s.runTimeOver start = true → f ∈ (s.expireFilter f).queue) := by
  rw [State.expireFilter_of_not_ripening fun x _ hx => by cases hr.symm.trans hx; simp [hv], State.expireRunTime_inService hr hv]
  split
  · exact ⟨State.filter_setFilter _ _ _, fun _ => by simp⟩
  · exact ⟨hr, fun h => absurd h ‹_›⟩

theorem State.expireFilter_due {s : State} {f : FilterNo} {r : Filter} {d : Due} {start : Int} (hr : s.filter f = some r)
    (hv : r.service = .due d start) (hc : d.cls = d.reasons.cls) :
    (s.expireFilter f).filter f = some (if s.runTimeOver start = true then
        { r with service := .due { d with reasons := { d.reasons with runtime := true } } start } else r) := by
  rw [State.expireFilter_of_not_ripening fun x _ hx => by cases hr.symm.trans hx; simp [hv], State.expireRunTime_due hr hv hc]
  split
  · exact State.filter_setFilter _ _ _
  · exact hr

/-- A RIPENING filter past its limit is held out, and its owner is told last of it (R16). -/
theorem State.expireFilter_ripening {s : State} {f : FilterNo} {r : Filter} {start : Nat} (hr : s.filter f = some r)
    (hv : r.service = .ripening start) :
    s.expireFilter f = if s.activeBank.ripeningLimit ≤ s.clock - start then
      (s.setFilter f (some { r with service := .heldOut .ripenTimeout })).postTo r.owner (.filterHeld f) else s := by
  rw [State.expireFilter, State.expireRunTime_other hr (fun _ => by simp [hv]) (fun _ _ => by simp [hv]),
    State.expireRipening_ripening hr hv]

/-- An expiry leaves the FILTER_HELD latch of a port that owns no filter past its ripening limit. -/
theorem State.filterHeld_expireFilter {s : State} {f : FilterNo} {p : PortNo}
    (h : ∀ r start, s.filter f = some r → r.owner = p → r.service = .ripening start →
      s.clock - start < s.activeBank.ripeningLimit) :
    ((s.expireFilter f).port p).latches.filterHeld = (s.port p).latches.filterHeld := by
  by_cases hripe : ∃ r start, s.filter f = some r ∧ r.service = .ripening start
  · obtain ⟨r, start, hr, hv⟩ := hripe
    rw [State.expireFilter_ripening hr hv]
    split
    · rename_i hover
      have hne : p ≠ r.owner := fun e => absurd (h r start hr e.symm hv) (Nat.not_lt.2 hover)
      rw [State.port_postTo, if_neg hne]
      rfl
    · rfl
  · have hports : (s.expireRunTime f).ports = s.ports := by simp
    rw [State.expireFilter_of_not_ripening fun r start hr hv => hripe ⟨r, start, hr, hv⟩, State.port, hports]
    rfl

theorem State.filterHeld_foldl {p : PortNo} {l : List FilterNo} (hl : l.Nodup) {s : State}
    (h : ∀ f ∈ l, ∀ r start, s.filter f = some r → r.owner = p → r.service = .ripening start →
      s.clock - start < s.activeBank.ripeningLimit) :
    ((l.foldl State.expireFilter s).port p).latches.filterHeld = (s.port p).latches.filterHeld := by
  induction l generalizing s with
  | nil => rfl
  | cons f l ih =>
    obtain ⟨hf, hnd⟩ := List.nodup_cons.1 hl
    have hframe := s.expiryFrame_expireFilter f
    rw [List.foldl_cons, ih hnd, State.filterHeld_expireFilter (h f (by simp))]
    intro g hg r start hr
    have hne : g ≠ f := fun e => hf (e ▸ hg)
    rw [hframe.clock, hframe.activeBank]
    exact h g (List.mem_cons_of_mem _ hg) r start ((s.filter_expireFilter_ne hne).symm.trans hr)

/-- The filters before a filter and after it, in ascending number. -/
theorem allFilters_split (f : FilterNo) :
    ∃ l l', allFilters = l ++ f :: l' ∧ f ∉ l ∧ l'.Nodup ∧ ∀ g ∈ l', f < g ∧ g ∉ l := by
  have hsorted : allFilters.Pairwise (· < ·) := by decide
  obtain ⟨l, l', hsplit⟩ := List.append_of_mem (show f ∈ allFilters by revert f; decide)
  rw [hsplit] at hsorted
  obtain ⟨-, hafter, hcross⟩ := List.pairwise_append.1 hsorted
  obtain ⟨hlt, hpair⟩ := List.pairwise_cons.1 hafter
  refine ⟨l, l', hsplit, fun hm => lt_irrefl f (hcross f hm f (by simp)), hpair.imp fun h => ne_of_lt h,
    fun g hg => ⟨hlt g hg, ?_⟩⟩
  exact fun hm => lt_irrefl g (hcross g hm g (List.mem_cons_of_mem _ hg))

/-- The expiries of all filters as one filter meets them: `t` is the state at its turn, `later` the filters after it. -/
structure State.ExpiryTurn (s : State) (f : FilterNo) (t : State) (later : List FilterNo) : Prop where
  earlier   : s.ExpiryFrame t
  own       : t.filter f = s.filter f
  rest      : s.expireFilters = later.foldl State.expireFilter (t.expireFilter f)
  nodup     : later.Nodup
  above     : ∀ g ∈ later, f < g
  untouched : ∀ g ∈ later, t.filter g = s.filter g

theorem State.exists_expiryTurn (s : State) (f : FilterNo) : ∃ t later, s.ExpiryTurn f t later := by
  obtain ⟨l, l', hsplit, hl, hnd, hlater⟩ := allFilters_split f
  refine ⟨l.foldl State.expireFilter s, l', s.expiryFrame_foldl l, ?_, ?_, hnd, fun g hg => (hlater g hg).1, fun g hg => ?_⟩
  · exact State.filter_foldl_expireFilter hl s
  · rw [State.expireFilters_eq, hsplit, List.foldl_append, List.foldl_cons]
  · exact State.filter_foldl_expireFilter (hlater g hg).2 s

namespace State.ExpiryTurn

variable {s t : State} {f : FilterNo} {later : List FilterNo} (h : s.ExpiryTurn f t later)
include h

theorem not_mem : f ∉ later := fun hm => lt_irrefl f (h.above f hm)

theorem filter_after : s.expireFilters.filter f = (t.expireFilter f).filter f := by
  rw [h.rest, State.filter_foldl_expireFilter h.not_mem]

theorem frame_after : (t.expireFilter f).ExpiryFrame s.expireFilters := by
  rw [h.rest]
  exact State.expiryFrame_foldl later _

/-- The FILTER_HELD latch of a port after the expiries, where it owns no later filter past its ripening limit. -/
theorem filterHeld_after {p : PortNo} (hp : ∀ g r start, f < g → s.filter g = some r → r.owner = p →
    r.service = .ripening start → s.clock - start < s.activeBank.ripeningLimit) :
    (s.expireFilters.port p).latches.filterHeld = ((t.expireFilter f).port p).latches.filterHeld := by
  have hframe := h.earlier.trans (t.expiryFrame_expireFilter f)
  rw [h.rest]
  refine State.filterHeld_foldl h.nodup fun g hg r start hr ho hv => ?_
  have hne : g ≠ f := fun e => h.not_mem (e ▸ hg)
  rw [hframe.clock, hframe.activeBank]
  exact hp g r start (h.above g hg) (((t.filter_expireFilter_ne hne).symm.trans hr) ▸ (h.untouched g hg).symm) ho hv

end State.ExpiryTurn

end Sys2Proof.Machine

namespace Sys2Proof.Proofs.Postures

open Sys2Proof.Machine

/-! ### The switch that is taken (R135, R136) -/

/-- The state in which the target is active, at which the filters meet its limits. -/
def activated (s : State) (b : BankId) : State :=
  { s with active := b, switch := none, budget := min s.budget (s.bank b).runLength }

theorem activeBank_activated (s : State) (b : BankId) : (activated s b).activeBank = s.bank b := by cases b <;> rfl

theorem carrySwitch_activated (s : State) (b : BankId) :
    s.carrySwitch b = ((((activated s b).expireFilters.expireHold).expireGap).postAttached (.posture (.bank b))).leaveOffline :=
  s.carrySwitch_eq b

theorem runTimeOver_iff (s : State) (b : BankId) (start : Int) :
    (activated s b).runTimeOver start = true ↔ ((s.bank b).runTimeLimit : Int) * 3600 ≤ (s.clock : Int) - start := by
  rw [State.runTimeOver, activeBank_activated, decide_eq_true_iff]
  push_cast
  rfl

theorem exec_switchTake {s : State} {x : PendingSwitch} (hx : s.switch = some x) (hl : s.lock = none) (hw : s.header.wash = none) :
    exec .switchTake s = .next (if s.validBank x.target then s.carrySwitch x.target
      else { s with switch := none }.postAttached (.posture .rejected)) := by
  have hdue : s.switchDue = true := by simp [State.switchDue, hx, hl, Header.isFree_eq, hw]
  have hexec : exec .switchTake s = .next s.takeSwitch := rfl
  rw [hexec, State.takeSwitch, hx]
  dsimp only
  rw [if_pos hdue]

section
variable (s : State) (b : BankId)

theorem carrySwitch_filters : (s.carrySwitch b).filters = (activated s b).expireFilters.filters ∧
    (s.carrySwitch b).queue = (activated s b).expireFilters.queue := by
  rw [carrySwitch_activated]
  simp

theorem carrySwitch_settings : (s.carrySwitch b).active = b ∧ (s.carrySwitch b).switch = none ∧
    (s.carrySwitch b).normal = s.normal ∧ (s.carrySwitch b).storm = s.storm ∧ (s.carrySwitch b).holder = s.holder ∧
    (s.carrySwitch b).budget = min s.budget (s.bank b).runLength := by
  rw [carrySwitch_activated]
  simp [activated]

theorem expiryFrame_activated : (activated s b).ExpiryFrame (activated s b).expireFilters :=
  State.expiryFrame_foldl allFilters _

theorem activeBank_expired : (activated s b).expireFilters.activeBank = s.bank b :=
  (expiryFrame_activated s b).activeBank.trans (activeBank_activated s b)

theorem carrySwitch_hold {h : Hold} (hh : s.hold = some h) :
    (s.carrySwitch b).hold = if (s.bank b).holdLimit ≤ s.clock - h.start then none else some h := by
  have hhold : (activated s b).expireFilters.hold = some h := (expiryFrame_activated s b).hold.trans hh
  have hclock : (activated s b).expireFilters.clock = s.clock := (expiryFrame_activated s b).clock
  have hcarry : (s.carrySwitch b).hold = (activated s b).expireFilters.expireHold.hold := by
    rw [carrySwitch_activated]
    simp
  rw [hcarry, State.expireHold, hhold]
  dsimp only
  simp only [State.holdDue, hhold, Option.any_some, State.reached, activeBank_expired, hclock, decide_eq_true_eq]
  split
  · rfl
  · exact hhold

theorem expireHold_rest (t : State) : t.expireHold.header = t.header ∧ t.expireHold.activeBank = t.activeBank ∧
    t.expireHold.clock = t.clock ∧ t.expireHold.anyStopping = t.anyStopping := by
  have hbank : t.expireHold.activeBank = t.activeBank := State.activeBank_congr (by simp) (by simp) (by simp)
  exact ⟨by simp, hbank, by simp, by simp [State.anyStopping]⟩

theorem leaveOffline_header (t : State) : t.leaveOffline.header = if t.header = .offline then .idle else t.header := by
  unfold State.leaveOffline
  split
  · rename_i h
    rw [if_pos h]
    rfl
  · rename_i h
    rw [if_neg h]

theorem expireGap_header_settling {t : State} {since : Nat} {taken : Bool} (h : t.header = .settling since taken) :
    t.expireGap.header = if taken = false ∧ t.activeBank.headerGap ≤ t.clock - since then
      (if t.anyStopping = true then .settling since true else .idle) else .settling since taken := by
  unfold State.expireGap State.gapDue
  rw [h]
  simp only [State.reached, Bool.and_eq_true, Bool.not_eq_true', decide_eq_true_eq]
  split
  · split <;> rfl
  · exact h

theorem expireGap_header_other {t : State} (h : ∀ since taken, t.header ≠ .settling since taken) : t.expireGap = t := by
  rcases t.expireGap_cases with e | ⟨since, taken, hs, -⟩
  · exact e
  · exact absurd hs (h since taken)

/-- The header as the gap of the target meets it (R136). -/
theorem carrySwitch_header : (s.carrySwitch b).header =
    if (activated s b).expireFilters.expireHold.expireGap.header = .offline then .idle
    else (activated s b).expireFilters.expireHold.expireGap.header := by
  rw [carrySwitch_activated, leaveOffline_header]
  simp

theorem expired_rest : (activated s b).expireFilters.expireHold.header = s.header ∧
    (activated s b).expireFilters.expireHold.activeBank = s.bank b ∧
    (activated s b).expireFilters.expireHold.clock = s.clock ∧
    (activated s b).expireFilters.expireHold.anyStopping = s.anyStopping := by
  obtain ⟨hheader, hbank, hclock, hstop⟩ := expireHold_rest (activated s b).expireFilters
  exact ⟨hheader.trans (by simp [activated]), hbank.trans (activeBank_expired s b),
    hclock.trans (expiryFrame_activated s b).clock, hstop.trans (by simp [State.anyStopping, activated])⟩

theorem carrySwitch_header_settling {since : Nat} {taken : Bool} (h : s.header = .settling since taken) :
    (s.carrySwitch b).header = if taken = false ∧ (s.bank b).headerGap ≤ s.clock - since then
      (if s.anyStopping = true then .settling since true else .idle) else .settling since taken := by
  obtain ⟨hheader, hbank, hclock, hstop⟩ := expired_rest s b
  rw [carrySwitch_header, expireGap_header_settling (hheader.trans h), hbank, hclock, hstop]
  refine if_neg ?_
  (repeat' split) <;> simp

theorem carrySwitch_header_other (h : ∀ since taken, s.header ≠ .settling since taken) :
    (s.carrySwitch b).header = if s.header = .offline then .idle else s.header := by
  have hheader := (expired_rest s b).1
  rw [carrySwitch_header, expireGap_header_other (by rwa [hheader]), hheader]

/-! ### The latches -/

theorem port_expireHold (t : State) (i : PortNo) :
    ∃ l : Latches, t.expireHold.port i = { t.port i with latches := l } ∧ l.filterHeld = (t.port i).latches.filterHeld := by
  unfold State.expireHold
  split
  · split
    · rename_i h hh hd
      by_cases hi : i = h.port
      · subst hi
        exact ⟨_, (State.port_postTo _ _ _ _).trans (if_pos rfl), rfl⟩
      · exact ⟨_, (State.port_postTo _ _ _ _).trans (if_neg hi), rfl⟩
    · exact ⟨_, rfl, rfl⟩
  · exact ⟨_, rfl, rfl⟩

theorem port_carrySwitch (i : PortNo) : (s.carrySwitch b).port i =
    if ((activated s b).expireFilters.expireHold.port i).state.isAttached = true then
      ((activated s b).expireFilters.expireHold.port i).post (.posture (.bank b))
    else (activated s b).expireFilters.expireHold.port i := by
  have hports : ∀ t : State, t.expireGap.port i = t.port i ∧ t.leaveOffline.port i = t.port i := fun t => by
    simp [State.port]
  rw [carrySwitch_activated, (hports _).2, State.port_postAttached, (hports _).1]

theorem carrySwitch_posture {i : PortNo} (h : (s.port i).state.isAttached = true) :
    ((s.carrySwitch b).port i).latches.posture = some (.bank b) := by
  obtain ⟨l, hl⟩ := (expiryFrame_activated s b).ports i
  obtain ⟨m, hm, -⟩ := port_expireHold (activated s b).expireFilters i
  have hattached : ((activated s b).expireFilters.expireHold.port i).state.isAttached = true := by
    rw [hm, hl]
    exact h
  rw [port_carrySwitch, if_pos hattached]
  rfl

theorem carrySwitch_filterHeld (i : PortNo) :
    ((s.carrySwitch b).port i).latches.filterHeld = ((activated s b).expireFilters.port i).latches.filterHeld := by
  obtain ⟨m, hm, hheld⟩ := port_expireHold (activated s b).expireFilters i
  rw [port_carrySwitch, ← hheld]
  rw [hm]
  split <;> rfl

end

/-- Settles O53: POSTURE_SWITCH by its target, and the taken switch as each filter, the hold and the header meet it. -/
theorem postureSwitches : Obligations.PostureSwitches := by
  unfold Obligations.PostureSwitches
  refine ⟨fun s p tag target h hl => ?_, fun s x hx hlock hw => ⟨fun hv => ?_, fun hv => ?_⟩⟩
  · have hactive : (s.renewed p).active = s.active := by simp
    have hvalid : ∀ b, (s.renewed p).validBank b = s.validBank b :=
      State.validBank_congr (by simp) (by simp) (by simp) (by simp)
    refine ⟨fun hb => ?_, fun hb => ?_, fun hb hv => ?_, fun hb hv => ?_⟩
    · exact h.exec_covered_refused rfl rfl hl (by rw [State.requestSwitch, hb])
    · exact h.exec_covered_accepted rfl rfl hl (by rw [State.requestSwitch, hb]; exact if_pos hactive.symm)
    · refine h.exec_covered_accepted rfl rfl hl ?_
      rw [State.requestSwitch, hb]
      exact (if_neg (by rw [hactive]; exact BankId.other_ne _)).trans (if_pos ((hvalid _).trans hv))
    · refine h.exec_covered_refused rfl rfl hl ?_
      rw [State.requestSwitch, hb]
      exact (if_neg (by rw [hactive]; exact BankId.other_ne _)).trans (if_neg (by rw [hvalid, hv]; simp))
  · rw [exec_switchTake hx hlock hw, if_neg (by simp [hv])]
  · obtain ⟨hactive, hswitch, hnormal, hstorm, hholder, hbudget⟩ := carrySwitch_settings s x.target
    obtain ⟨hfilters, hqueue⟩ := carrySwitch_filters s x.target
    refine ⟨s.carrySwitch x.target, ?_, hactive, hswitch, hnormal, hstorm, hholder, hbudget,
      fun h hh => carrySwitch_hold s x.target hh, fun hh => ?_, fun hh => ?_, fun since taken hh => ?_,
      fun i hi => carrySwitch_posture s x.target hi, fun f r hr => ?_⟩
    · rw [exec_switchTake hx hlock hw, if_pos hv]
    · rcases hh with hh | hh <;> rw [carrySwitch_header_other s _ (by simp [hh]), hh] <;> rfl
    · rw [carrySwitch_header_other s _ (by simp [hh]), hh]
      rfl
    · exact carrySwitch_header_settling s x.target hh
    · obtain ⟨t, later, hturn⟩ := (activated s x.target).exists_expiryTurn f
      have hrt : t.filter f = some r := hturn.own.trans hr
      have hover : ∀ start, t.runTimeOver start = true ↔
          ((s.bank x.target).runTimeLimit : Int) * 3600 ≤ (s.clock : Int) - start := fun start => by
        rw [hturn.earlier.runTimeOver]
        exact runTimeOver_iff s x.target start
      have hfilter : (s.carrySwitch x.target).filter f = (t.expireFilter f).filter f :=
        (State.filter_congr hfilters f).trans hturn.filter_after
      have hin : f ∈ (t.expireFilter f).queue → f ∈ (s.carrySwitch x.target).queue := fun hm => by
        rw [hqueue]
        exact hturn.frame_after.queue f hm
      have hlimit : t.activeBank.ripeningLimit = (s.bank x.target).ripeningLimit ∧ t.clock = s.clock :=
        ⟨by rw [hturn.earlier.activeBank, activeBank_activated], hturn.earlier.clock⟩
      refine ⟨fun start hv => ?_, fun start hv ho => ?_, fun d start hv hc => ⟨fun hm => ?_, ?_⟩,
        fun start hv => ⟨?_, fun ho hg => ?_⟩⟩
      · refine hfilter.trans ((State.expireFilter_inService hrt hv).1.trans ?_)
        simp only [hover, hlimit.2]
      · exact hin ((State.expireFilter_inService hrt hv).2 ((hover start).2 ho))
      · rw [hqueue]
        exact (expiryFrame_activated s x.target).queue f hm
      · refine hfilter.trans ((State.expireFilter_due hrt hv hc).trans ?_)
        simp only [hover]
      · rw [hfilter, State.expireFilter_ripening hrt hv, hlimit.1, hlimit.2]
        split
        · exact State.filter_setFilter _ _ _
        · exact hrt
      · rw [carrySwitch_filterHeld, hturn.filterHeld_after fun g y since hlt hy hown hs => ?_]
        · rw [State.expireFilter_ripening hrt hv, hlimit.1, hlimit.2, if_pos ho, State.port_postTo, if_pos rfl]
          rfl
        · rw [activeBank_activated]
          exact hg g y since hlt hy hown hs

end Sys2Proof.Proofs.Postures
end
